-- ==== Sys2Proof/Word.lean ====
section
/-! DEFINITION. The byte: one character of the part's serial lines, eight data bits (R1, R154, R175). -/

namespace Sys2Proof

/-- One character of a sensor line, a weighbridge line or the station line: eight data bits. -/
abbrev Byte := BitVec 8

end Sys2Proof
end

