-- ==== Sys2Proof/Syntax.lean ====
section
/-! DEFINITION. The commands of the part: one constructor of Instr for each row of spec/opcode_table.json, with the
operands its rule gives it; and the names of spouts, lanes, gates, inputs and outputs that the operands use. -/

namespace Sys2Proof

/-- The four spouts (section 1.1). -/
inductive Spout where
  | a | b | c | d
  deriving DecidableEq, Repr

/-- The two lanes (section 1.1). -/
inductive Lane where
  | l1 | l2
  deriving DecidableEq, Repr

/-- The place of a spout in its lane: A and C are the lower spouts, B and D the upper ones (R164). -/
inductive Side where
  | lower | upper
  deriving DecidableEq, Repr

/-- The four auxiliary outputs (section 3.2). -/
inductive Aux where
  | x1 | x2 | x3 | x4
  deriving DecidableEq, Repr

/-- The two gates of a spout (R51). -/
inductive Gate where
  | coarse | fine
  deriving DecidableEq, Repr

/-- One item for each spout. -/
structure PerSpout (α : Type) where
  a : α
  b : α
  c : α
  d : α
  deriving DecidableEq, Repr

/-- One item for each lane. -/
structure PerLane (α : Type) where
  l1 : α
  l2 : α
  deriving DecidableEq, Repr

/-- One item for each of the two spouts of a lane. -/
structure PerSide (α : Type) where
  lower : α
  upper : α
  deriving DecidableEq, Repr

/-- One item for each auxiliary output. -/
structure PerAux (α : Type) where
  x1 : α
  x2 : α
  x3 : α
  x4 : α
  deriving DecidableEq, Repr

/-- One item for each gate of a spout. -/
structure PerGate (α : Type) where
  coarse : α
  fine : α
  deriving DecidableEq, Repr

/-- The lane that holds a spout: lane 1 holds A and B, lane 2 holds C and D (section 1.1). -/
def Spout.lane : Spout → Lane
  | .a => .l1
  | .b => .l1
  | .c => .l2
  | .d => .l2

/-- The place of a spout in its lane. -/
def Spout.side : Spout → Side
  | .a => .lower
  | .b => .upper
  | .c => .lower
  | .d => .upper

/-- The spout of a lane at a place. -/
def Lane.spout : Lane → Side → Spout
  | .l1, .lower => .a
  | .l1, .upper => .b
  | .l2, .lower => .c
  | .l2, .upper => .d

/-- The spouts in spout order (R80, R146). -/
def Spout.all : List Spout := [.a, .b, .c, .d]

/-- The lanes in lane order (R174). -/
def Lane.all : List Lane := [.l1, .l2]

def PerSpout.get {α : Type} (t : PerSpout α) : Spout → α
  | .a => t.a
  | .b => t.b
  | .c => t.c
  | .d => t.d

def PerSpout.set {α : Type} (t : PerSpout α) (s : Spout) (v : α) : PerSpout α :=
  match s with
  | .a => { t with a := v }
  | .b => { t with b := v }
  | .c => { t with c := v }
  | .d => { t with d := v }

def PerSpout.map {α β : Type} (f : α → β) (t : PerSpout α) : PerSpout β :=
  ⟨f t.a, f t.b, f t.c, f t.d⟩

/-- The same item for every spout. -/
def PerSpout.fill {α : Type} (v : α) : PerSpout α := ⟨v, v, v, v⟩

/-- The items in spout order. -/
def PerSpout.toList {α : Type} (t : PerSpout α) : List α := [t.a, t.b, t.c, t.d]

def PerLane.get {α : Type} (t : PerLane α) : Lane → α
  | .l1 => t.l1
  | .l2 => t.l2

def PerLane.set {α : Type} (t : PerLane α) (l : Lane) (v : α) : PerLane α :=
  match l with
  | .l1 => { t with l1 := v }
  | .l2 => { t with l2 := v }

def PerLane.map {α β : Type} (f : α → β) (t : PerLane α) : PerLane β := ⟨f t.l1, f t.l2⟩

/-- The same item for both lanes. -/
def PerLane.fill {α : Type} (v : α) : PerLane α := ⟨v, v⟩

def PerSide.get {α : Type} (t : PerSide α) : Side → α
  | .lower => t.lower
  | .upper => t.upper

def PerSide.set {α : Type} (t : PerSide α) (p : Side) (v : α) : PerSide α :=
  match p with
  | .lower => { t with lower := v }
  | .upper => { t with upper := v }

def PerAux.map {α β : Type} (f : α → β) (t : PerAux α) : PerAux β :=
  ⟨f t.x1, f t.x2, f t.x3, f t.x4⟩

/-- The items in the order AUX1 to AUX4. -/
def PerAux.toList {α : Type} (t : PerAux α) : List α := [t.x1, t.x2, t.x3, t.x4]

def PerGate.get {α : Type} (t : PerGate α) : Gate → α
  | .coarse => t.coarse
  | .fine => t.fine

def PerGate.set {α : Type} (t : PerGate α) (g : Gate) (v : α) : PerGate α :=
  match g with
  | .coarse => { t with coarse := v }
  | .fine => { t with fine := v }

/-- The five inputs of a spout, in the order of their codes 0 to 4 (R41, R191). -/
inductive SpoutInput where
  | spoutDown | vehicle | level | coarseClosed | fineClosed
  deriving DecidableEq, Repr

/-- The 22 discrete inputs: five for each spout and two for the station (R41). -/
inductive InputId where
  | spout (sp : Spout) (k : SpoutInput)
  | feedHold
  | airOk
  deriving DecidableEq, Repr

/-- The three bytes that choose an output's source in CONFIG-STATION and CONFIG-SPOUT (R191). -/
structure OutputField where
  source : Byte
  arg : Byte
  invert : Byte
  deriving DecidableEq, Repr

/-- The body of CONFIG-STATION (R191). -/
structure StationFields where
  g : Byte
  debounce : Byte
  turnaround : Byte
  mask : BitVec 16
  enables : BitVec 24
  aux : PerAux OutputField
  deriving DecidableEq, Repr

/-- The body of CONFIG-LANE (R191). -/
structure LaneFields where
  lane : Byte
  enable : Byte
  nStable : Byte
  tareTimeout : Byte
  grossTimeout : Byte
  acceptBand : Byte
  alpha : Byte
  nMin : BitVec 32
  deriving DecidableEq, Repr

/-- The body of CONFIG-SPOUT, fields 1 to 23 (R191). -/
structure SpoutFields where
  spout : Byte
  product : Byte
  w : Byte
  zeroBand : BitVec 16
  zeroTrack : BitVec 16
  prime : BitVec 16
  dribble : BitVec 32
  flight : BitVec 16
  settle : BitVec 16
  settleMax : BitVec 16
  leak : BitVec 16
  gateTravel : BitVec 16
  gp : Byte
  lmax : BitVec 32
  adaptBand : BitVec 32
  overTol : BitVec 32
  underTol : BitVec 32
  subLimit : Byte
  feedWait : BitVec 16
  suspend : BitVec 16
  beacon : OutputField
  deriving DecidableEq, Repr

/-- An optional field of an order: its presence byte and its value (R64, R191). -/
structure OptField where
  presence : Byte
  value : BitVec 32
  deriving DecidableEq, Repr

/-- The body of LOAD-ORDER (R60, R191). -/
structure OrderFields where
  spout : Byte
  tag : List Byte
  compartment : Byte
  product : Byte
  target : BitVec 32
  overTol : OptField
  underTol : OptField
  dribble : OptField
  deriving DecidableEq, Repr

/-- The commands: one constructor for each row of spec/opcode_table.json, in the table's order. A request carries the
fields of its body, a spout or lane named in it as the code that was sent. -/
inductive Instr where
  /-- SENSOR_BYTE_ARRIVAL (R4). -/
  | sensorByteArrival (sp : Spout) (byte : Byte)
  /-- SENSOR_CHARACTER_ERROR (R7). -/
  | sensorCharacterError (sp : Spout)
  /-- COLLECTION_GAP_EXPIRY (R7). -/
  | collectionGapExpiry (sp : Spout)
  /-- FRAME_WATCH_EXPIRY (R8). -/
  | frameWatchExpiry (sp : Spout)
  /-- ZERO_TRACK_EXPIRY (R34). -/
  | zeroTrackExpiry (sp : Spout)
  /-- INPUT_RAW_CHANGE (R42): the input and whether its raw level is now active. -/
  | inputRawChange (i : InputId) (active : Bool)
  /-- DEBOUNCE_EXPIRY (R42). -/
  | debounceExpiry (i : InputId)
  /-- GATE_TRAVEL_EXPIRY (R52). -/
  | gateTravelExpiry (sp : Spout) (g : Gate)
  /-- READ_STATION (R186). -/
  | readStation
  /-- CONFIG_STATION (R139). -/
  | configStation (f : StationFields)
  /-- CONFIG_LANE (R162). -/
  | configLane (f : LaneFields)
  /-- CONFIG_SPOUT (R84). -/
  | configSpout (f : SpoutFields)
  /-- READ_SPOUT (R186): the spout code and the options. -/
  | readSpout (spout : Byte) (options : Byte)
  /-- SET_CALIBRATION (R36): the spout code, S, z and the signed L. -/
  | setCalibration (spout : Byte) (span : BitVec 32) (zero : BitVec 16) (corr : BitVec 32)
  /-- ZERO (R35). -/
  | zero (spout : Byte)
  /-- LOAD_ORDER (R65). -/
  | loadOrder (f : OrderFields)
  /-- START (R88). -/
  | start (spout : Byte)
  /-- STOP (R128). -/
  | stop (spout : Byte)
  /-- WITHDRAW_VEHICLE (R74). -/
  | withdrawVehicle (tag : List Byte)
  /-- READ_ORDER (R77). -/
  | readOrder (slot : Byte)
  /-- RELEASE_ORDER (R76). -/
  | releaseOrder (slot : Byte)
  /-- READ_EVENTS (R189). -/
  | readEvents (n : Byte)
  /-- SET_OUTPUTS (R58). -/
  | setOutputs (setMask : Byte) (clearMask : Byte)
  /-- CLEAR_LOCKOUT (R137). -/
  | clearLockout (spout : Byte)
  /-- READ_LANE (R172). -/
  | readLane (lane : Byte)
  /-- SAVE_CALIBRATION (R194). -/
  | saveCalibration
  /-- RESTART (R196). -/
  | restart
  /-- FEED_WAIT_EXPIRY (R93). -/
  | feedWaitExpiry (sp : Spout)
  /-- PRIME_EXPIRY (R95). -/
  | primeExpiry (sp : Spout)
  /-- SETTLE_EXPIRY (R100). -/
  | settleExpiry (sp : Spout)
  /-- SUSPEND_EXPIRY (R134). -/
  | suspendExpiry (sp : Spout)
  /-- WEIGHBRIDGE_BYTE_ARRIVAL (R156). -/
  | weighbridgeByteArrival (l : Lane) (byte : Byte)
  /-- WEIGHBRIDGE_CHARACTER_ERROR (R157). -/
  | weighbridgeCharacterError (l : Lane)
  /-- WEIGHBRIDGE_GAP_EXPIRY (R157). -/
  | weighbridgeGapExpiry (l : Lane)
  /-- LOSS_TIMER_EXPIRY (R158). -/
  | lossTimerExpiry (l : Lane)
  /-- TARE_TIMER_EXPIRY (R164). -/
  | tareTimerExpiry (l : Lane)
  /-- GROSS_TIMER_EXPIRY (R167). -/
  | grossTimerExpiry (l : Lane)
  /-- STATION_BYTE_ARRIVAL (R177). -/
  | stationByteArrival (byte : Byte)
  /-- STATION_CHARACTER_ERROR (R177). -/
  | stationCharacterError
  /-- STATION_GAP_EXPIRY (R177). -/
  | stationGapExpiry
  /-- TURNAROUND_EXPIRY (R180). -/
  | turnaroundExpiry
  /-- REPLY_SENT (R180). -/
  | replySent
  /-- STORE_PART_COMPLETE (R194). -/
  | storePartComplete
  /-- STORE_WRITE_COMPLETE (R194): whether the memory now holds what was written. -/
  | storeWriteComplete (held : Bool)
  /-- STORE_PART_TIMEOUT (R194). -/
  | storePartTimeout
  /-- SUPPLY_FALL (R195). -/
  | supplyFall
  /-- SUPPLY_STABLE_EXPIRY (R195). -/
  | supplyStableExpiry
  /-- RESET_TERMINAL_CHANGE (R195): whether the terminal's raw level is now asserted. -/
  | resetTerminalChange (asserted : Bool)
  /-- RESET_FILTER_EXPIRY (R195). -/
  | resetFilterExpiry
  /-- RESET_ASSERT_EXPIRY (R195). -/
  | resetAssertExpiry
  /-- WARM_TERMINAL_CHANGE (R196): whether the terminal's raw level is now asserted. -/
  | warmTerminalChange (asserted : Bool)
  /-- WARM_FILTER_EXPIRY (R196). -/
  | warmFilterExpiry
  /-- WARM_ASSERT_EXPIRY (R196). -/
  | warmAssertExpiry
  /-- SUPPLY_RISE (R195). -/
  | supplyRise
  deriving DecidableEq, Repr

end Sys2Proof
end

