-- ==== Sys2Proof/WellFormed.lean ====
section
/-! DEFINITION. Which commands have the shape their rows give them. Every operand of fixed width carries its width in
its type; the one length left to check is that of a vehicle tag, 8 characters (R60, R74, R191). -/

namespace Sys2Proof

/-- A vehicle tag is 8 characters long (R60). -/
def tagWf (tag : List Byte) : Bool := tag.length == 8

/-- A command is well formed when the vehicle tag it carries, if any, is 8 characters long (R191: the bodies of
LOAD-ORDER and WITHDRAW-VEHICLE). -/
def Instr.wf : Instr → Bool
  | .loadOrder f => tagWf f.tag
  | .withdrawVehicle tag => tagWf tag
  | _ => true

end Sys2Proof
end

