-- ==== Sys2Proof/Decode.lean ====
section
/-! DEFINITION. From bits to commands. The opcode table gives no row any bits, so decodeTableWord spells none. What the
spec does encode is the request: a kind and a body of a size the kind fixes (R178, R179, R191). decodeRequest reads
the command from them, encodeRequest writes them. -/

namespace Sys2Proof

/-! ## Byte order (section 4.4: high byte first) -/

/-- The value of a multi-byte field, high byte first. -/
def beNat (bytes : List Byte) : Nat := bytes.foldl (fun acc b => acc * 256 + b.toNat) 0

/-- The low n bytes of a value, high byte first. -/
def beBytes : Nat → Nat → List Byte
  | 0, _ => []
  | n + 1, v => BitVec.ofNat 8 (v / 256 ^ n) :: beBytes n v

/-- The low n bytes of a signed value, high byte first. PRESUMED: two's complement, for the spec says only that the field is
signed (log entry 30). -/
def beIntBytes (n : Nat) (v : Int) : List Byte := beBytes n (v % (256 ^ n : Nat)).toNat

/-- The byte of a body at an offset. -/
def byteAt (i : Nat) (body : List Byte) : Byte := body.getD i 0

/-- The two-byte field of a body at an offset. -/
def wordAt (i : Nat) (body : List Byte) : BitVec 16 := byteAt i body ++ byteAt (i + 1) body

/-- The three-byte field of a body at an offset. -/
def tripleAt (i : Nat) (body : List Byte) : BitVec 24 := wordAt i body ++ byteAt (i + 2) body

/-- The four-byte field of a body at an offset. -/
def longAt (i : Nat) (body : List Byte) : BitVec 32 := wordAt i body ++ wordAt (i + 2) body

/-- The bytes of a two-byte field, high byte first. -/
def wordBytes (v : BitVec 16) : List Byte := [v.extractLsb' 8 8, v.extractLsb' 0 8]

/-- The bytes of a three-byte field, high byte first. -/
def tripleBytes (v : BitVec 24) : List Byte :=
  [v.extractLsb' 16 8, v.extractLsb' 8 8, v.extractLsb' 0 8]

/-- The bytes of a four-byte field, high byte first. -/
def longBytes (v : BitVec 32) : List Byte :=
  [v.extractLsb' 24 8, v.extractLsb' 16 8, v.extractLsb' 8 8, v.extractLsb' 0 8]

/-! ## The opcode table -/

/-- The command that a word spells by the opcode table's bits. The table gives no row any bits: no word spells one. -/
def decodeTableWord (_nbits _w : Nat) : Option Instr := none

/-! ## Requests -/

/-- The body size of each request kind (R191); none for a kind that is not 0x01 to 0x13. -/
def bodySize (kind : Byte) : Option Nat :=
  match kind.toNat with
  | 0x01 => some 0
  | 0x02 => some 20
  | 0x03 => some 11
  | 0x04 => some 48
  | 0x05 => some 2
  | 0x06 => some 11
  | 0x07 => some 1
  | 0x08 => some 30
  | 0x09 => some 1
  | 0x0A => some 1
  | 0x0B => some 8
  | 0x0C => some 1
  | 0x0D => some 1
  | 0x0E => some 1
  | 0x0F => some 2
  | 0x10 => some 1
  | 0x11 => some 1
  | 0x12 => some 0
  | 0x13 => some 0
  | _ => none

/-- Source, argument and invert flag at an offset (R191). -/
def decodeOutputField (i : Nat) (body : List Byte) : OutputField :=
  ⟨byteAt i body, byteAt (i + 1) body, byteAt (i + 2) body⟩

/-- The CONFIG-STATION body (R191). -/
def decodeStationFields (b : List Byte) : StationFields :=
  { g := byteAt 0 b, debounce := byteAt 1 b, turnaround := byteAt 2 b, mask := wordAt 3 b,
    enables := tripleAt 5 b,
    aux := ⟨decodeOutputField 8 b, decodeOutputField 11 b, decodeOutputField 14 b,
      decodeOutputField 17 b⟩ }

/-- The CONFIG-LANE body (R191). -/
def decodeLaneFields (b : List Byte) : LaneFields :=
  { lane := byteAt 0 b, enable := byteAt 1 b, nStable := byteAt 2 b, tareTimeout := byteAt 3 b,
    grossTimeout := byteAt 4 b, acceptBand := byteAt 5 b, alpha := byteAt 6 b, nMin := longAt 7 b }

/-- The CONFIG-SPOUT body (R191). -/
def decodeSpoutFields (b : List Byte) : SpoutFields :=
  { spout := byteAt 0 b, product := byteAt 1 b, w := byteAt 2 b, zeroBand := wordAt 3 b,
    zeroTrack := wordAt 5 b, prime := wordAt 7 b, dribble := longAt 9 b, flight := wordAt 13 b,
    settle := wordAt 15 b, settleMax := wordAt 17 b, leak := wordAt 19 b, gateTravel := wordAt 21 b,
    gp := byteAt 23 b, lmax := longAt 24 b, adaptBand := longAt 28 b, overTol := longAt 32 b,
    underTol := longAt 36 b, subLimit := byteAt 40 b, feedWait := wordAt 41 b, suspend := wordAt 43 b,
    beacon := decodeOutputField 45 b }

/-- Presence byte and value at an offset (R191). -/
def decodeOptField (i : Nat) (b : List Byte) : OptField := ⟨byteAt i b, longAt (i + 1) b⟩

/-- The LOAD-ORDER body (R191). -/
def decodeOrderFields (b : List Byte) : OrderFields :=
  { spout := byteAt 0 b, tag := (b.drop 1).take 8, compartment := byteAt 9 b, product := byteAt 10 b,
    target := longAt 11 b, overTol := decodeOptField 15 b, underTol := decodeOptField 20 b,
    dribble := decodeOptField 25 b }

/-- The request of a kind and a body (R179, R191); none when the kind is unknown or the body has another size. -/
def decodeRequest (kind : Byte) (b : List Byte) : Option Instr :=
  if bodySize kind = some b.length then
    match kind.toNat with
    | 0x01 => some .readStation
    | 0x02 => some (.configStation (decodeStationFields b))
    | 0x03 => some (.configLane (decodeLaneFields b))
    | 0x04 => some (.configSpout (decodeSpoutFields b))
    | 0x05 => some (.readSpout (byteAt 0 b) (byteAt 1 b))
    | 0x06 => some (.setCalibration (byteAt 0 b) (longAt 1 b) (wordAt 5 b) (longAt 7 b))
    | 0x07 => some (.zero (byteAt 0 b))
    | 0x08 => some (.loadOrder (decodeOrderFields b))
    | 0x09 => some (.start (byteAt 0 b))
    | 0x0A => some (.stop (byteAt 0 b))
    | 0x0B => some (.withdrawVehicle b)
    | 0x0C => some (.readOrder (byteAt 0 b))
    | 0x0D => some (.releaseOrder (byteAt 0 b))
    | 0x0E => some (.readEvents (byteAt 0 b))
    | 0x0F => some (.setOutputs (byteAt 0 b) (byteAt 1 b))
    | 0x10 => some (.clearLockout (byteAt 0 b))
    | 0x11 => some (.readLane (byteAt 0 b))
    | 0x12 => some .saveCalibration
    | 0x13 => some .restart
    | _ => none
  else none

/-! ## The encoder -/

def encodeOutputField (f : OutputField) : List Byte := [f.source, f.arg, f.invert]

def encodeStationFields (f : StationFields) : List Byte :=
  [f.g, f.debounce, f.turnaround] ++ wordBytes f.mask ++ tripleBytes f.enables ++
    encodeOutputField f.aux.x1 ++ encodeOutputField f.aux.x2 ++ encodeOutputField f.aux.x3 ++
    encodeOutputField f.aux.x4

def encodeLaneFields (f : LaneFields) : List Byte :=
  [f.lane, f.enable, f.nStable, f.tareTimeout, f.grossTimeout, f.acceptBand, f.alpha] ++
    longBytes f.nMin

def encodeSpoutFields (f : SpoutFields) : List Byte :=
  [f.spout, f.product, f.w] ++ wordBytes f.zeroBand ++ wordBytes f.zeroTrack ++ wordBytes f.prime ++
    longBytes f.dribble ++ wordBytes f.flight ++ wordBytes f.settle ++ wordBytes f.settleMax ++
    wordBytes f.leak ++ wordBytes f.gateTravel ++ [f.gp] ++ longBytes f.lmax ++
    longBytes f.adaptBand ++ longBytes f.overTol ++ longBytes f.underTol ++ [f.subLimit] ++
    wordBytes f.feedWait ++ wordBytes f.suspend ++ encodeOutputField f.beacon

def encodeOptField (f : OptField) : List Byte := f.presence :: longBytes f.value

def encodeOrderFields (f : OrderFields) : List Byte :=
  f.spout :: (f.tag ++ (f.compartment :: f.product :: (longBytes f.target ++
    encodeOptField f.overTol ++ encodeOptField f.underTol ++ encodeOptField f.dribble)))

/-- The kind and the body of a request (R179, R191); none for a command that is not a request. -/
def encodeRequest : Instr → Option (Byte × List Byte)
  | .readStation => some (0x01, [])
  | .configStation f => some (0x02, encodeStationFields f)
  | .configLane f => some (0x03, encodeLaneFields f)
  | .configSpout f => some (0x04, encodeSpoutFields f)
  | .readSpout sp options => some (0x05, [sp, options])
  | .setCalibration sp span zero corr =>
    some (0x06, sp :: (longBytes span ++ wordBytes zero ++ longBytes corr))
  | .zero sp => some (0x07, [sp])
  | .loadOrder f => some (0x08, encodeOrderFields f)
  | .start sp => some (0x09, [sp])
  | .stop sp => some (0x0A, [sp])
  | .withdrawVehicle tag => some (0x0B, tag)
  | .readOrder slot => some (0x0C, [slot])
  | .releaseOrder slot => some (0x0D, [slot])
  | .readEvents n => some (0x0E, [n])
  | .setOutputs setMask clearMask => some (0x0F, [setMask, clearMask])
  | .clearLockout sp => some (0x10, [sp])
  | .readLane l => some (0x11, [l])
  | .saveCalibration => some (0x12, [])
  | .restart => some (0x13, [])
  | _ => none

end Sys2Proof
end

