-- ==== Sys2Proof/Config.lean ====
section
/-! DEFINITION. The fixed numbers of the part (00_scope.md section 5 and the rules named at each). The spec leaves
no value to an implementation, so there is no free value here. -/

namespace Sys2Proof.Config

/-- Flow ceiling QMAX in g/s (R23). -/
def qMax : Nat := 200000
/-- Where an accumulating mass saturates, in grams (R27, R61, R166). -/
def massMax : Nat := 4294967295
/-- Where a 16-bit count saturates (R16, R61, R157, R166, R185). -/
def countMax : Nat := 65535
/-- Largest span S (R20). -/
def spanMax : Nat := 1048575
/-- Largest raw count, and largest zero z (R20). -/
def rawMax : Nat := 65535
/-- The event time stamp and the millisecond time wrap to 0 after 4,294,967,295 (R187). -/
def timeWrap : Nat := 4294967296
/-- Depth of a spout queue (R63). -/
def queueDepth : Nat := 4
/-- Depth of the report queue (R187). -/
def reportDepth : Nat := 32
/-- Where the lost count saturates (R187). -/
def lostMax : Nat := 255
/-- Largest number of raw counts in the history (R32). -/
def historyDepth : Nat := 16
/-- Sensor collection gap timer, ms (R3). -/
def sensorGap : Nat := 2
/-- Frame watch after a good frame, ms (R8). -/
def watchFirst : Nat := 30
/-- Frame watch after an expiry, ms (R8). -/
def watchNext : Nat := 20
/-- Good frames that restore a sensor line or a weighbridge line (R12, R159). -/
def restoreFrames : Nat := 3
/-- Weighbridge collection gap timer, ms (R156). -/
def bridgeGap : Nat := 5
/-- Weighbridge loss timer, ms (R158). -/
def bridgeLoss : Nat := 1000
/-- Settle extension step, ms (R100). -/
def settleStep : Nat := 500
/-- Station line inter-byte gap limit, ms (R177). -/
def stationGap : Nat := 5
/-- Largest body of a request or a reply, bytes (R177). -/
def bodyMax : Nat := 120
/-- Events of one READ-EVENTS reply (R189). -/
def readEventsMax : Nat := 8
/-- Time allowed for one part of the image write, ms (R194). -/
def storePart : Nat := 100
/-- The supply must stand above the trip level for this long, ms (R195). -/
def supplyStable : Nat := 50
/-- Glitch filter of the RESET and WARM terminals, ms (R195, R196). -/
def terminalFilter : Nat := 1
/-- Assertion of the RESET or WARM terminal that takes effect, ms (R195, R196). -/
def terminalAssert : Nat := 10

end Sys2Proof.Config
end

