-- ==== Sys2Proof/Machine/State.lean ====
section
/-! DEFINITION. The state of the part, block by block (00_scope.md section 2), the reasons a step can stop, and the
state right after a cold reset. A timer is held as the moment of its expiry on the model's clock `now`; a stopped
timer is none. -/

namespace Sys2Proof.Machine

/-- The faults. There is none: the spec gives every command an effect in every state, so no step of this model ends
in a fault. Nothing raises one; safe. -/
inductive Fault where
  deriving DecidableEq, Repr

/-- The refusals. -/
inductive Refusal where
  /-- Raised by exec alone, for a command whose meaning is not modelled yet. Safe: the model stops where the part goes
  on. No arm of exec answers it. -/
  | notModelled (mnemonic : String)
  deriving DecidableEq, Repr

/-- Line condition of a sensor line or a weighbridge line (R11, R158). -/
inductive LineCond where
  | lost | live
  deriving DecidableEq, Repr

/-- Filtered level of an input (R41). -/
inductive Level where
  | inactive | active | unsettled
  deriving DecidableEq, Repr

/-- The settled level that a raw level gives. -/
def Level.ofRaw (active : Bool) : Level := if active then .active else .inactive

/-- Framing of a sensor line or a weighbridge line: in COLLECT the partial frame and the expiry of the collection gap
timer (R3, R4, R156). -/
inductive Framing where
  | hunt
  | collect (bytes : List Byte) (gap : Nat)
  deriving DecidableEq, Repr

/-- One raw count with its overload flag (section 1.3). -/
structure RawSample where
  count : Nat
  overload : Bool
  deriving DecidableEq, Repr

/-- A Sensor Line Receiver (section 1.3). -/
structure Slr where
  framing : Framing
  line : LineCond
  watch : Option Nat
  subRun : Nat
  goodRun : Nat
  hold : List RawSample
  firstAcq : Bool
  badCheck : Nat
  subCount : Nat
  deriving DecidableEq, Repr

/-- A Flow Computer (section 2.1). -/
structure Fc where
  span : Nat
  zero : Nat
  corr : Int
  window : List Nat
  qFilt : Nat
  residue : Nat
  stray : Nat
  history : List Nat
  zeroTimer : Option Nat
  lastCandidate : Option Nat
  lineView : LineCond
  active : Option (Fin 16)
  idleView : Bool
  coarseView : Level
  fineView : Level
  deriving DecidableEq, Repr

/-- One discrete input (R41). -/
structure Input where
  raw : Bool
  filtered : Level
  timer : Option Nat
  latch : Bool
  report : Bool
  deriving DecidableEq, Repr

/-- The five inputs of a spout (R41). -/
structure SpoutInputs where
  spoutDown : Input
  vehicle : Input
  level : Input
  coarseClosed : Input
  fineClosed : Input
  deriving DecidableEq, Repr

/-- Gate supervision state (R51). -/
inductive GateState where
  | closed | opening | opened | closing | unproven
  deriving DecidableEq, Repr

/-- Supervision of one gate: its state and its travel timer (R51). -/
structure GateSup where
  state : GateState
  timer : Option Nat
  deriving DecidableEq, Repr

/-- What a gate fault report says (R53). -/
inductive GateFaultKind where
  | failedOpen | failedClose | dropped
  deriving DecidableEq, Repr

/-- The sources of the configurable outputs, in the order of their codes (R55, R191). -/
inductive SourceKind where
  | manual | spoutActive | spoutFlowing | spoutLockout | resultWaiting | laneWeighing | feedHeld
  deriving DecidableEq, Repr

/-- A configurable output's source, its argument byte and its invert flag (R57). -/
structure OutputCfg where
  source : SourceKind
  arg : Byte
  invert : Bool
  deriving DecidableEq, Repr

/-- A configurable output: its configuration, its manual level and its terminal (R55). -/
structure ConfigOut where
  cfg : OutputCfg
  manual : Bool
  terminal : Bool
  deriving DecidableEq, Repr

/-- The block's view of every source condition (section 3.4). -/
structure SourceViews where
  active : PerSpout Bool
  flowing : PerSpout Bool
  lockout : PerSpout Bool
  result : PerSpout Bool
  weighing : PerLane Bool
  feedHeld : Bool
  deriving DecidableEq, Repr

/-- The Input/Output Block (chapter 3). -/
structure Iob where
  debounce : Nat
  inputs : PerSpout SpoutInputs
  feedHold : Input
  airOk : Input
  coarseOut : PerSpout Bool
  fineOut : PerSpout Bool
  aeration : PerSpout Bool
  holdAck : Bool
  attention : Bool
  gates : PerSpout (PerGate GateSup)
  beacon : PerSpout ConfigOut
  aux : PerAux ConfigOut
  views : SourceViews
  deriving DecidableEq, Repr

/-- The eleven abort reasons, in the order of their bits (R61, R191). -/
inductive AbortReason where
  | hostStop | hostWithdraw | spoutLifted | vehicleLeft | levelProbe | gateFault | gateLeak
  | sensorLost | feedTimeout | suspendTimeout | restart
  deriving DecidableEq, Repr

/-- A set of abort reasons (R121). -/
structure ReasonSet where
  hostStop : Bool
  hostWithdraw : Bool
  spoutLifted : Bool
  vehicleLeft : Bool
  levelProbe : Bool
  gateFault : Bool
  gateLeak : Bool
  sensorLost : Bool
  feedTimeout : Bool
  suspendTimeout : Bool
  restart : Bool
  deriving DecidableEq, Repr

/-- The lockout reasons, in the order of their bits (R135, R191). -/
inductive LockoutReason where
  | spoutLifted | vehicleLeft | gateFault | gateLeak | sensorLost
  deriving DecidableEq, Repr

/-- A lockout set (R135). -/
structure LockoutSet where
  spoutLifted : Bool
  vehicleLeft : Bool
  gateFault : Bool
  gateLeak : Bool
  sensorLost : Bool
  deriving DecidableEq, Repr

def ReasonSet.empty : ReasonSet :=
  ⟨false, false, false, false, false, false, false, false, false, false, false⟩

def LockoutSet.empty : LockoutSet := ⟨false, false, false, false, false⟩

/-- Slot state (R62). -/
inductive SlotState where
  | free | queued | active | done | aborted
  deriving DecidableEq, Repr

/-- Completion class (R102). -/
inductive FillClass where
  | inTol | overfill | underfill
  deriving DecidableEq, Repr

/-- A slot record: the order fields of R60 and the progress fields of R61. -/
structure SlotRec where
  state : SlotState
  tag : List Byte
  compartment : Nat
  spout : Option Spout
  product : Nat
  target : Nat
  overTol : Option Nat
  underTol : Option Nat
  dribble : Option Nat
  mass : Nat
  cls : Option FillClass
  reasons : Option ReasonSet
  subCount : Nat
  overCount : Nat
  suspCount : Nat
  fineCutoff : Option Nat
  startTime : Option Nat
  endTime : Option Nat
  deriving DecidableEq, Repr

/-- The cleared record of a FREE slot (R61). DEDUCED: the tag clears to eight zero bytes and the spout, whose codes
leave no value for none, to absent (log entry 6). -/
def SlotRec.cleared : SlotRec :=
  { state := .free, tag := List.replicate 8 0, compartment := 0, spout := none, product := 0,
    target := 0, overTol := none, underTol := none, dribble := none, mass := 0, cls := none,
    reasons := none, subCount := 0, overCount := 0, suspCount := 0, fineCutoff := none,
    startTime := none, endTime := none }

/-- The Order Table: sixteen slots, four queues (heads first), and the most recently ended slot of each spout
(chapter 4). -/
structure Ot where
  slots : Vector SlotRec 16
  queues : PerSpout (List (Fin 16))
  lastEnded : PerSpout (Option (Fin 16))
  deriving DecidableEq, Repr

/-- Spout states, in the order of their codes (R81, R191). -/
inductive SpoutState where
  | idle | tare | waitFeed | aerate | coarse | fine | settle | suspended | aborting
  deriving DecidableEq, Repr

/-- The active states (section 4.5). -/
def SpoutState.isActive : SpoutState → Bool
  | .idle => false
  | _ => true

/-- The flowing states (section 4.5). -/
def SpoutState.isFlowing : SpoutState → Bool
  | .aerate => true
  | .coarse => true
  | .fine => true
  | _ => false

/-- The names of the stage timer, in the order of their codes from 1 (R191). -/
inductive StageName where
  | prime | feedWait | settle | suspend
  deriving DecidableEq, Repr

/-- A running stage timer: its name and its expiry (section 5.1). -/
structure StageTimer where
  name : StageName
  expiry : Nat
  deriving DecidableEq, Repr

/-- Suspension cause (R131). -/
inductive SuspendCause where
  | feedHold | airFault
  deriving DecidableEq, Repr

/-- A Spout Controller (section 5.1). -/
structure Sc where
  state : SpoutState
  active : Option (Fin 16)
  grantHeld : Bool
  stage : Option StageTimer
  deadline : Option Nat
  lockout : LockoutSet
  reasons : ReasonSet
  cause : Option SuspendCause
  lineView : LineCond
  spoutDownView : Level
  vehicleView : Level
  levelView : Level
  deriving DecidableEq, Repr

/-- The numeric parameters of a spout that CONFIG-SPOUT sets (R10, R21, R51, R66, R84, R107, R130). -/
structure SpoutParams where
  product : Nat
  w : Nat
  zeroBand : Nat
  zeroTrack : Nat
  prime : Nat
  dribble : Nat
  flight : Nat
  settle : Nat
  settleMax : Nat
  leak : Nat
  gateTravel : Nat
  gp : Nat
  lmax : Nat
  adaptBand : Nat
  overTol : Nat
  underTol : Nat
  subLimit : Nat
  feedWait : Nat
  suspend : Nat
  deriving DecidableEq, Repr

/-- The defaults of the spout parameters (R10, R21, R51, R66, R84, R107, R130). -/
def SpoutParams.default : SpoutParams :=
  { product := 1, w := 8, zeroBand := 400, zeroTrack := 5000, prime := 1500, dribble := 300000,
    flight := 1500, settle := 4000, settleMax := 15000, leak := 500, gateTravel := 1200, gp := 4,
    lmax := 50000, adaptBand := 100000, overTol := 50000, underTol := 50000, subLimit := 20,
    feedWait := 600, suspend := 300 }

/-- Feed condition, in the order of the codes (R144, R191). -/
inductive FeedCond where
  | unknown | normal | hold | airFault | holdAirFault
  deriving DecidableEq, Repr

/-- The Feed Arbiter (section 8.1). -/
structure Fa where
  g : Nat
  holders : PerSpout Bool
  requests : List Spout
  condition : FeedCond
  feedHoldView : Level
  airOkView : Level
  deriving DecidableEq, Repr

/-- A good weighbridge frame's reading (R155, R160). -/
structure BridgeReading where
  gross : Nat
  motion : Bool
  overload : Bool
  deriving DecidableEq, Repr

/-- Weighing window states, in the order of their codes (R191). -/
inductive WindowState where
  | closed | taring | opened | weighing
  deriving DecidableEq, Repr

/-- The names of a lane's window timer (section 9.4). -/
inductive LaneTimerName where
  | tare | gross
  deriving DecidableEq, Repr

/-- A running window timer. -/
structure LaneTimer where
  name : LaneTimerName
  expiry : Nat
  deriving DecidableEq, Repr

/-- What a window has gathered from one spout (R166). -/
structure Contribution where
  grams : Nat
  subCount : Nat
  overCount : Nat
  suspended : Bool
  deriving DecidableEq, Repr

def Contribution.zero : Contribution := ⟨0, 0, 0, false⟩

/-- A window record (section 9.4). -/
structure Window where
  state : WindowState
  number : Nat
  tare : Option Nat
  claims : PerSide Bool
  contrib : PerSide Contribution
  bridgeLost : Bool
  gross : Option Nat
  timer : Option LaneTimer
  deriving DecidableEq, Repr

/-- The outcomes of a window, in the order of their codes from 1 (R168, R174, R191). -/
inductive WeighOutcome where
  | nothingLoaded | noTare | noGross | weighbridgeLost | mixed | belowMinimum | degraded
  | outOfBand | claimPending | corrected | abandoned
  deriving DecidableEq, Repr

/-- A result record (R170). -/
structure WeighResult where
  number : Nat
  tare : Option Nat
  gross : Option Nat
  nm : Nat
  nb : Option Int
  contrib : PerSide Contribution
  bridgeLost : Bool
  outcome : WeighOutcome
  corrected : Option Spout
  newSpan : Option Nat
  deriving DecidableEq, Repr

/-- Lane parameters (R162). -/
structure LaneParams where
  enable : Bool
  nStable : Nat
  tareTimeout : Nat
  grossTimeout : Nat
  acceptBand : Nat
  alpha : Nat
  nMin : Nat
  deriving DecidableEq, Repr

/-- The defaults of the lane parameters (R162). -/
def LaneParams.default : LaneParams :=
  { enable := true, nStable := 10, tareTimeout := 30, grossTimeout := 30, acceptBand := 30,
    alpha := 2, nMin := 5000000 }

/-- A Lane Weighing Unit (chapter 9). -/
structure Lwu where
  framing : Framing
  line : LineCond
  lossTimer : Option Nat
  restoreRun : Nat
  firstAcq : Bool
  badCheck : Nat
  stability : Nat
  lastGross : Option BridgeReading
  window : Window
  lastResult : Option WeighResult
  params : LaneParams
  deriving DecidableEq, Repr

/-- The source of an event (R187). -/
inductive EventSource where
  | spout (sp : Spout)
  | lane (l : Lane)
  | station
  deriving DecidableEq, Repr

/-- Causes of a reset or restart, in the order of their codes (R191). -/
inductive ResetCause where
  | powerUp | resetTerminal | restartRequest | warmTerminal
  deriving DecidableEq, Repr

/-- The sample marks of ORDER_DONE and ORDER_ABORTED (R72). -/
structure SampleMarks where
  substituted : Bool
  overrange : Bool
  suspended : Bool
  deriving DecidableEq, Repr

/-- The bodies of the event kinds (R191). -/
inductive EventBody where
  | inputChange (i : InputId) (level : Level)
  | orderDone (slot : Fin 16) (cls : FillClass) (mass : Nat) (learned : Bool) (marks : SampleMarks)
  | orderAborted (slot : Fin 16) (reasons : ReasonSet) (mass : Nat) (marks : SampleMarks)
  | lockoutSet (reason : LockoutReason) (set : LockoutSet) (state : SpoutState)
  | sensorLost (badCheck : Nat) (subCount : Nat)
  | sensorRestored (badCheck : Nat) (subCount : Nat)
  | weighbridgeLost (badCheck : Nat)
  | weighbridgeRestored (badCheck : Nat)
  | zeroCaptured (previous : Nat) (candidate : Nat) (averaged : Nat)
  | zeroDrift (previous : Nat) (candidate : Nat) (averaged : Nat)
  | feedState (previous : FeedCond) (new : FeedCond) (holders : Nat) (waiting : Nat) (holdAck : Bool)
  | weighResult (number : Nat) (outcome : WeighOutcome) (corrected : Option Spout) (newSpan : Option Nat)
  | storeDone
  | storeFailed
  | storeDefaults
  | restarted (warm : Bool) (cause : ResetCause)
  deriving DecidableEq, Repr

/-- An event record (R187). -/
structure Event where
  source : EventSource
  time : Nat
  body : EventBody
  deriving DecidableEq, Repr

/-- The attention mask: one enable for each category (R188). -/
structure CategoryMask where
  input : Bool
  order : Bool
  lockout : Bool
  sensor : Bool
  zero : Bool
  feed : Bool
  weigh : Bool
  store : Bool
  restart : Bool
  deriving DecidableEq, Repr

/-- Every category enabled (R184). -/
def CategoryMask.all : CategoryMask := ⟨true, true, true, true, true, true, true, true, true⟩

/-- The Report Queue: its records oldest first, the lost count and the attention mask (R187, R188). -/
structure Rq where
  events : List Event
  lost : Nat
  mask : CategoryMask
  deriving DecidableEq, Repr

/-- The status of a reply (R182). -/
inductive Status where
  | ok | okClamped | badLength | badField | unknownKind | busy | notIdle | noOrder | queueFull
  | tableFull | productMismatch | lockedOut | permissive | sensorLost | staleView | notActive
  | notEnded | noSuchSlot | conditionPresent
  deriving DecidableEq, Repr

/-- A reply: its status and the body bytes after the status byte (R182). -/
structure Reply where
  status : Status
  contents : List Byte
  deriving DecidableEq, Repr

/-- A pending reply: its request's kind and the reply formed when the request was taken (R180). -/
structure PendingReply where
  kind : Byte
  reply : Reply
  deriving DecidableEq, Repr

/-- Receive state of the Station Link: in FRAME the partial frame and the expiry of the gap timer (R177). -/
inductive Rx where
  | listen
  | frame (bytes : List Byte) (gap : Nat)
  deriving DecidableEq, Repr

/-- Transmit state of the Station Link: WAITING holds the pending reply and the expiry of the turnaround timer;
SENDING holds the pending reply and the bytes of the reply frame on the line (R180). -/
inductive Tx where
  | idle
  | waiting (p : PendingReply) (expiry : Nat)
  | sending (p : PendingReply) (frame : List Byte)
  deriving DecidableEq, Repr

/-- The Station Link (chapter 10): address and line rate as latched from the straps. -/
structure Sl where
  rx : Rx
  tx : Tx
  broken : Nat
  lengthErr : Nat
  crcErr : Nat
  dropped : Nat
  address : Nat
  rate : Nat
  turnaround : Nat
  deriving DecidableEq, Repr

/-- The report enables of a spout's five inputs (R43, R192). -/
structure InputEnables where
  spoutDown : Bool
  vehicle : Bool
  level : Bool
  coarseClosed : Bool
  fineClosed : Bool
  deriving DecidableEq, Repr

/-- The stored items of the station (R192). -/
structure StationItems where
  g : Nat
  debounce : Nat
  turnaround : Nat
  mask : CategoryMask
  enables : PerSpout InputEnables
  feedHoldEnable : Bool
  airOkEnable : Bool
  aux : PerAux OutputCfg
  auxManual : PerAux Bool
  beaconManual : PerSpout Bool
  deriving DecidableEq, Repr

/-- The stored items of a spout (R192). -/
structure SpoutItems where
  params : SpoutParams
  beacon : OutputCfg
  span : Nat
  zero : Nat
  corr : Int
  deriving DecidableEq, Repr

/-- The stored items of the image (R192). -/
structure Items where
  station : StationItems
  lanes : PerLane LaneParams
  spouts : PerSpout SpoutItems
  deriving DecidableEq, Repr

/-- The check word of the image: a word, or a value that fails the check, as the first part of a write leaves it
(R194). The spec does not say which failing value is written, and nothing shows it (log entry 7). -/
inductive CheckWord where
  | failing
  | word (w : BitVec 16)
  deriving DecidableEq, Repr

/-- The non-volatile image (R192). -/
structure Image where
  items : Items
  check : CheckWord
  deriving DecidableEq, Repr

/-- The three parts of an image write (R194). -/
inductive WritePart where
  | overwriteCheck | writeItems | writeCheck
  deriving DecidableEq, Repr

/-- The store state: WRITING holds the part in progress, the copy made at acceptance and the moment at which the part
has taken its 100 ms (R194). -/
inductive StoreState where
  | idle
  | writing (part : WritePart) (copy : Items) (limit : Nat)
  deriving DecidableEq, Repr

/-- The Calibration Store (chapter 11). -/
structure Cs where
  image : Image
  store : StoreState
  deriving DecidableEq, Repr

/-- The RESET or WARM terminal behind its glitch filter: raw level, filtered level, the filter timer, and the timer of
a filtered assertion (R195, R196). `seen` is false while a terminal held through a cold reset has not been seen
released (R196); the RESET terminal keeps it true. -/
structure Terminal where
  raw : Bool
  filtered : Bool
  filter : Option Nat
  assertion : Option Nat
  seen : Bool
  deriving DecidableEq, Repr

/-- The power-up supervisor, the reset terminals and the straps (R175, R195, R196). `held` is the cause of the reset
that is being held, if one is. -/
structure Resets where
  held : Option ResetCause
  supplyOk : Bool
  supervisorHold : Bool
  stable : Option Nat
  reset : Terminal
  warm : Terminal
  strapAddress : BitVec 5
  strapRate : BitVec 2
  deriving DecidableEq, Repr

/-- The whole part, and the queue of commands waiting. `now` is the model's own millisecond clock; the part's
millisecond time counts from `msBase` (R187, R195, R196). -/
structure State where
  now : Nat
  msBase : Nat
  rst : Resets
  slr : PerSpout Slr
  fc : PerSpout Fc
  iob : Iob
  ot : Ot
  sc : PerSpout Sc
  params : PerSpout SpoutParams
  fa : Fa
  lwu : PerLane Lwu
  sl : Sl
  rq : Rq
  cs : Cs
  pending : List Instr
  deriving DecidableEq, Repr

/-! ## Cold values, block by block -/

/-- R18. -/
def Slr.cold : Slr :=
  { framing := .hunt, line := .lost, watch := none, subRun := 0, goodRun := 0, hold := [],
    firstAcq := false, badCheck := 0, subCount := 0 }

/-- R39, with the calibration set of the stored items. -/
def Fc.cold (it : SpoutItems) : Fc :=
  { span := it.span, zero := it.zero, corr := it.corr, window := [], qFilt := 0, residue := 0,
    stray := 0, history := [], zeroTimer := none, lastCandidate := none, lineView := .lost,
    active := none, idleView := true, coarseView := .unsettled, fineView := .unsettled }

/-- R105. -/
def Sc.cold : Sc :=
  { state := .idle, active := none, grantHeld := false, stage := none, deadline := none,
    lockout := .empty, reasons := .empty, cause := none, lineView := .lost,
    spoutDownView := .unsettled, vehicleView := .unsettled, levelView := .unsettled }

/-- R79. -/
def Ot.cold : Ot :=
  { slots := Vector.replicate 16 SlotRec.cleared, queues := .fill [], lastEnded := .fill none }

/-- R152. -/
def Fa.cold (g : Nat) : Fa :=
  { g, holders := .fill false, requests := [], condition := .unknown, feedHoldView := .unsettled,
    airOkView := .unsettled }

/-- Section 9.4, after a cold reset. -/
def Window.cold : Window :=
  { state := .closed, number := 0, tare := none, claims := ⟨false, false⟩,
    contrib := ⟨.zero, .zero⟩, bridgeLost := false, gross := none, timer := none }

/-- R173. -/
def Lwu.cold (p : LaneParams) : Lwu :=
  { framing := .hunt, line := .lost, lossTimer := none, restoreRun := 0, firstAcq := false,
    badCheck := 0, stability := 0, lastGross := none, window := .cold, lastResult := none,
    params := p }

/-- The conditions as the owning blocks begin (R59): the feed condition is not NORMAL. -/
def SourceViews.cold : SourceViews :=
  { active := .fill false, flowing := .fill false, lockout := .fill false, result := .fill false,
    weighing := .fill false, feedHeld := true }

/-- An unsettled input at the end of reset, its debounce timer running (R41, R45). -/
def Input.cold (raw report : Bool) (expiry : Nat) : Input :=
  { raw, filtered := .unsettled, timer := some expiry, latch := false, report }

/-- R57: the default of BEACON of a spout, by its code, and of AUX1 to AUX4. DESIGN CHOICE: the argument byte of AUX1
to AUX4, which the default source ignores, is 0 (log entry 8). -/
def OutputCfg.beaconDefault (code : Byte) : OutputCfg := ⟨.spoutActive, code, false⟩

/-- See `OutputCfg.beaconDefault`. -/
def OutputCfg.auxDefault : OutputCfg := ⟨.manual, 0, false⟩

/-- The defaults of the stored items of a spout (R39, R57 and the parameter tables). -/
def SpoutItems.default (code : Byte) : SpoutItems :=
  { params := .default, beacon := .beaconDefault code, span := 20480, zero := 1000, corr := 0 }

/-- The defaults of every stored item (R193). -/
def Items.default : Items :=
  { station :=
      { g := 2, debounce := 20, turnaround := 3, mask := .all,
        enables := .fill ⟨true, true, true, true, true⟩, feedHoldEnable := true,
        airOkEnable := true, aux := ⟨.auxDefault, .auxDefault, .auxDefault, .auxDefault⟩,
        auxManual := ⟨false, false, false, false⟩, beaconManual := .fill false }
    lanes := .fill .default
    spouts := ⟨.default 0, .default 1, .default 2, .default 3⟩ }

/-- A terminal that stands released. -/
def Terminal.released : Terminal :=
  { raw := false, filtered := false, filter := none, assertion := none, seen := true }

/-- The part right after a power-up whose image was never saved (R193): every block cold with the defaults, the
debounce timers and the travel timers of the closing gates running (R45, R54), and RESTARTED and STORE_DEFAULTS in
the queue (R190, R193). DESIGN CHOICE: every input terminal, RESET, WARM and every strap reads 0 (log entry 2), the
image is the never saved one (log entry 1), and the model's clock begins at 0 (log entry 3). -/
def State.reset : State :=
  { now := 0
    msBase := 0
    rst :=
      { held := none, supplyOk := true, supervisorHold := false, stable := none,
        reset := .released, warm := .released, strapAddress := 0, strapRate := 0 }
    slr := .fill .cold
    fc := Items.default.spouts.map Fc.cold
    iob :=
      { debounce := 20
        inputs := .fill
          { spoutDown := .cold false true 20, vehicle := .cold false true 20,
            level := .cold false true 20, coarseClosed := .cold false true 20,
            fineClosed := .cold false true 20 }
        feedHold := .cold false true 20
        airOk := .cold false true 20
        coarseOut := .fill false
        fineOut := .fill false
        aeration := .fill false
        holdAck := false
        attention := true
        gates := .fill ⟨⟨.closing, some 1200⟩, ⟨.closing, some 1200⟩⟩
        beacon := Items.default.spouts.map fun it => ⟨it.beacon, false, false⟩
        aux := Items.default.station.aux.map fun cfg => ⟨cfg, false, false⟩
        views := .cold }
    ot := .cold
    sc := .fill .cold
    params := .fill .default
    fa := .cold 2
    lwu := .fill (.cold .default)
    sl :=
      { rx := .listen, tx := .idle, broken := 0, lengthErr := 0, crcErr := 0, dropped := 0,
        address := 1, rate := 0, turnaround := 3 }
    rq :=
      { events := [⟨.station, 0, .restarted false .powerUp⟩, ⟨.station, 0, .storeDefaults⟩]
        lost := 0
        mask := .all }
    cs := { image := ⟨.default, .failing⟩, store := .idle }
    pending := [] }

end Sys2Proof.Machine
end

