-- ==== Sys2Proof/Machine/Ops.lean ====
section
/-! DEFINITION. Operations every block uses: saturation and clamping, updates of one item of one block, the timers'
clock, the report queue and ATTENTION, the inputs, and the configurable outputs. -/

namespace Sys2Proof.Machine

/-! ## Arithmetic (section 4.2, 4.3) -/

/-- A sum that keeps its limit instead of passing it. -/
def satAdd (limit a b : Nat) : Nat := min limit (a + b)

/-- A value outside lo to hi is replaced by the nearer end (section 4.3). -/
def clampNat (lo hi v : Nat) : Nat := max lo (min v hi)

/-- The signed form of `clampNat`. -/
def clampInt (lo hi v : Int) : Int := max lo (min v hi)

/-- The rounded mean of a list, half up, and 0 for no entries (R25, R32). -/
def roundedMean (xs : List Nat) : Nat := (xs.sum + xs.length / 2) / xs.length

/-- The last n entries of a list. -/
def keepLast {α : Type} (n : Nat) (xs : List α) : List α := xs.drop (xs.length - n)

/-! ## Updates -/

def State.updSlr (s : State) (sp : Spout) (f : Slr → Slr) : State :=
  { s with slr := s.slr.set sp (f (s.slr.get sp)) }

def State.updFc (s : State) (sp : Spout) (f : Fc → Fc) : State :=
  { s with fc := s.fc.set sp (f (s.fc.get sp)) }

def State.updSc (s : State) (sp : Spout) (f : Sc → Sc) : State :=
  { s with sc := s.sc.set sp (f (s.sc.get sp)) }

def State.updLwu (s : State) (l : Lane) (f : Lwu → Lwu) : State :=
  { s with lwu := s.lwu.set l (f (s.lwu.get l)) }

def State.updWindow (s : State) (l : Lane) (f : Window → Window) : State :=
  s.updLwu l fun u => { u with window := f u.window }

def State.updIob (s : State) (f : Iob → Iob) : State := { s with iob := f s.iob }

def State.updOt (s : State) (f : Ot → Ot) : State := { s with ot := f s.ot }

def State.updSl (s : State) (f : Sl → Sl) : State := { s with sl := f s.sl }

def State.updRst (s : State) (f : Resets → Resets) : State := { s with rst := f s.rst }

/-- The record of a slot. -/
def Ot.slot (t : Ot) (i : Fin 16) : SlotRec := t.slots[i]

def Ot.setSlot (t : Ot) (i : Fin 16) (r : SlotRec) : Ot := { t with slots := t.slots.set i r }

def State.updSlot (s : State) (i : Fin 16) (f : SlotRec → SlotRec) : State :=
  s.updOt fun t => t.setSlot i (f (t.slot i))

/-! ## Time -/

/-- The part's millisecond time, counted from the last reset and wrapping (R187, R195, R196). -/
def State.msTime (s : State) : Nat := (s.now - s.msBase) % Config.timeWrap

/-- The moment a timer event is taken is not before the timer's expiry (log entry 3). -/
def State.reach (s : State) (expiry : Nat) : State := { s with now := max s.now expiry }

/-- The milliseconds left to an expiry. -/
def State.left (s : State) (expiry : Nat) : Nat := expiry - s.now

/-- While a reset is held no line character is received, no request taken and no timer of a block runs (R195). -/
def State.whenRunning (s : State) (f : State → State) : State :=
  if s.rst.held.isSome then s else f s

/-! ## The report queue (R187, R188) -/

/-- Whether the category of an event is enabled in a mask (R188). -/
def CategoryMask.enables (m : CategoryMask) : EventBody → Bool
  | .inputChange .. => m.input
  | .orderDone .. => m.order
  | .orderAborted .. => m.order
  | .lockoutSet .. => m.lockout
  | .sensorLost .. => m.sensor
  | .sensorRestored .. => m.sensor
  | .weighbridgeLost .. => m.sensor
  | .weighbridgeRestored .. => m.sensor
  | .zeroCaptured .. => m.zero
  | .zeroDrift .. => m.zero
  | .feedState .. => m.feed
  | .weighResult .. => m.weigh
  | .storeDone => m.store
  | .storeFailed => m.store
  | .storeDefaults => m.store
  | .restarted .. => m.restart

/-- ATTENTION is on exactly while the queue holds an event whose category is enabled (R188). -/
def Rq.attention (q : Rq) : Bool := q.events.any fun e => q.mask.enables e.body

/-- Appends a record, or counts it as lost when 32 are held (R187). -/
def Rq.push (q : Rq) (e : Event) : Rq :=
  if q.events.length < Config.reportDepth then { q with events := q.events ++ [e] }
  else { q with lost := satAdd Config.lostMax q.lost 1 }

/-- Changes the queue and hands the Input/Output Block the ATTENTION level that follows (R50, R188). -/
def State.updRq (s : State) (f : Rq → Rq) : State :=
  { s with rq := f s.rq, iob := { s.iob with attention := (f s.rq).attention } }

/-- Appends an event, stamped with the time of this step (R187). -/
def State.pushEvent (s : State) (src : EventSource) (body : EventBody) : State :=
  s.updRq fun q => q.push ⟨src, s.msTime, body⟩

/-! ## Inputs (R41) -/

def SpoutInputs.get (t : SpoutInputs) : SpoutInput → Input
  | .spoutDown => t.spoutDown
  | .vehicle => t.vehicle
  | .level => t.level
  | .coarseClosed => t.coarseClosed
  | .fineClosed => t.fineClosed

def SpoutInputs.set (t : SpoutInputs) (k : SpoutInput) (v : Input) : SpoutInputs :=
  match k with
  | .spoutDown => { t with spoutDown := v }
  | .vehicle => { t with vehicle := v }
  | .level => { t with level := v }
  | .coarseClosed => { t with coarseClosed := v }
  | .fineClosed => { t with fineClosed := v }

/-- The five inputs of a spout in the order of their codes (R191). -/
def SpoutInput.all : List SpoutInput := [.spoutDown, .vehicle, .level, .coarseClosed, .fineClosed]

/-- All 22 inputs, spout by spout, then FEED_HOLD and AIR_OK. -/
def InputId.all : List InputId :=
  (Spout.all.flatMap fun sp => SpoutInput.all.map fun k => .spout sp k) ++ [.feedHold, .airOk]

def State.input (s : State) : InputId → Input
  | .spout sp k => (s.iob.inputs.get sp).get k
  | .feedHold => s.iob.feedHold
  | .airOk => s.iob.airOk

def State.setInput (s : State) (i : InputId) (v : Input) : State :=
  match i with
  | .spout sp k =>
    s.updIob fun b => { b with inputs := b.inputs.set sp ((b.inputs.get sp).set k v) }
  | .feedHold => s.updIob fun b => { b with feedHold := v }
  | .airOk => s.updIob fun b => { b with airOk := v }

/-- The filtered level of a spout's input: what every other block and every request reads (R41). -/
def State.level (s : State) (sp : Spout) (k : SpoutInput) : Level := (s.input (.spout sp k)).filtered

/-! ## Configurable outputs (R55, R56) -/

/-- The spout that a source argument names; an argument out of range is stored as spout D (R57). -/
def spoutOfArg (arg : Byte) : Spout :=
  match arg.toNat with
  | 0 => .a
  | 1 => .b
  | 2 => .c
  | _ => .d

/-- The lane that a source argument names; an argument out of range is stored as lane 2 (R57). -/
def laneOfArg (arg : Byte) : Lane := if arg.toNat = 1 then .l1 else .l2

/-- The source condition of an output (R55). -/
def SourceViews.holds (v : SourceViews) (cfg : OutputCfg) (manual : Bool) : Bool :=
  match cfg.source with
  | .manual => manual
  | .spoutActive => v.active.get (spoutOfArg cfg.arg)
  | .spoutFlowing => v.flowing.get (spoutOfArg cfg.arg)
  | .spoutLockout => v.lockout.get (spoutOfArg cfg.arg)
  | .resultWaiting => v.result.get (spoutOfArg cfg.arg)
  | .laneWeighing => v.weighing.get (laneOfArg cfg.arg)
  | .feedHeld => v.feedHeld

/-- The output's terminal computed from its source and invert flag (R55). -/
def ConfigOut.recompute (v : SourceViews) (o : ConfigOut) : ConfigOut :=
  { o with terminal := v.holds o.cfg o.manual != o.cfg.invert }

/-- Recomputes every configurable output from the block's view of its source (R56). -/
def Iob.recompute (b : Iob) : Iob :=
  { b with beacon := b.beacon.map (·.recompute b.views), aux := b.aux.map (·.recompute b.views) }

/-- A condition notice: the view changes, and the outputs that use it follow in the same step (R56). -/
def State.notice (s : State) (f : SourceViews → SourceViews) : State :=
  s.updIob fun b => Iob.recompute { b with views := f b.views }

end Sys2Proof.Machine
end

