-- ==== Sys2Proof/Machine/Cutoff.lean ====
section
/-! DEFINITION. Cutoff arithmetic and the learning step (chapter 6), and the completion class (R102). -/

namespace Sys2Proof.Machine

/-- The preact P: flow over the flight time, rounded half up, plus L, clamped to 0..T (R108). -/
def preact (target qFilt flight : Nat) (corr : Int) : Nat :=
  (clampInt 0 target (((qFilt * flight + 500) / 1000 : Nat) + corr)).toNat

/-- The fine threshold F = T − P (R111). -/
def fineThreshold (target p : Nat) : Nat := target - p

/-- The coarse threshold C = T − D − P, and 0 when that is not positive (R110). -/
def coarseThreshold (target dribble p : Nat) : Nat := target - dribble - p

/-- The dribble in use: the order's override when present, else the spout's D (R109). -/
def dribbleInUse (override? : Option Nat) (d : Nat) : Nat := override?.getD d

/-- A quotient of magnitudes rounded half up, with the sign of the numerator: half away from zero (section 4.3). -/
def roundAway (num : Int) (den : Nat) : Int :=
  num.sign * (((num.natAbs + den / 2) / den : Nat) : Int)

/-- The learning step ΔL = e × Gp / 8, rounded half away from zero (R115). -/
def learningStep (e : Int) (gp : Nat) : Int := roundAway (e * gp) 8

/-- The completion class of a fill error (R102). -/
def fillClass (e : Int) (overTol underTol : Nat) : FillClass :=
  if (overTol : Int) < e then .overfill else if (underTol : Int) < -e then .underfill else .inTol

/-- The span step ΔS = S × (Nb − Nm) × α / (4 × Nm), rounded half away from zero (R169). -/
def spanStep (span : Nat) (diff : Int) (alpha nm : Nat) : Int :=
  roundAway (span * diff * alpha) (4 * nm)

end Sys2Proof.Machine
end

