-- ==== Sys2Proof/Machine/Orders.lean ====
section
/-! DEFINITION. What the Order Table does inside other blocks' steps: activation, the live record, and the end of an
order (R61, R67 to R73). -/

namespace Sys2Proof.Machine

/-- The sample marks of a record (R72). -/
def SlotRec.marks (r : SlotRec) : SampleMarks :=
  { substituted := decide (0 < r.subCount), overrange := decide (0 < r.overCount),
    suspended := decide (0 < r.suspCount) }

/-- Makes the head slot ACTIVE with M 0 and its start time stamped, and takes it from the queue (R67). -/
def State.activate (s : State) (sp : Spout) (i : Fin 16) (rest : List (Fin 16)) : State :=
  (s.updOt fun t => { t with queues := t.queues.set sp rest }).updSlot i fun r =>
    { r with state := .active, mass := 0, startTime := some s.msTime }

/-- One item's update of the live record: mass and counts together, each saturating (R68). -/
def SlotRec.addItem (r : SlotRec) (grams : Nat) (sub overr : Bool) : SlotRec :=
  { r with
    mass := satAdd Config.massMax r.mass grams
    subCount := satAdd Config.countMax r.subCount sub.toNat
    overCount := satAdd Config.countMax r.overCount overr.toNat }

/-- How an order ends (R70). -/
inductive EndNotice where
  | normal (cls : FillClass) (learned : Bool)
  | abort (reasons : ReasonSet)
  deriving DecidableEq, Repr

/-- The record after its end notice (R70). -/
def SlotRec.ended (r : SlotRec) (n : EndNotice) (time : Nat) : SlotRec :=
  match n with
  | .normal cls _ => { r with state := .done, cls := some cls, endTime := some time }
  | .abort reasons => { r with state := .aborted, reasons := some reasons, endTime := some time }

/-- The event of an end (R72, R73). -/
def SlotRec.endEvent (r : SlotRec) (i : Fin 16) : EndNotice → EventBody
  | .normal cls learned => .orderDone i cls r.mass learned r.marks
  | .abort reasons => .orderAborted i reasons r.mass r.marks

/-- The end notice of a spout's active slot: the slot is ended, it becomes the spout's most recently ended slot with
its RESULT_WAITING condition, the event is appended, and the Flow Computer and the Spout Controller hold no active
order (R29, R70, R71, R103). A spout without an active slot has no order to end. -/
def State.endOrder (s : State) (sp : Spout) (n : EndNotice) : State :=
  match (s.sc.get sp).active with
  | none => s
  | some i =>
    let r := s.ot.slot i
    let s := s.updSlot i fun r => r.ended n s.msTime
    let s := s.updOt fun t => { t with lastEnded := t.lastEnded.set sp (some i) }
    let s := s.notice fun v => { v with result := v.result.set sp true }
    let s := s.pushEvent (.spout sp) (r.endEvent i n)
    let s := s.updFc sp fun f => { f with active := none }
    s.updSc sp fun c => { c with active := none }

end Sys2Proof.Machine
end

