-- ==== Sys2Proof/Machine/Window.lean ====
section
/-! DEFINITION. The weighing window as the other blocks' steps move it: claims and their withdrawal, lane reports,
suspension notices, and the notice that a spout has left the active group (R161, R163, R165 to R167, R171). -/

namespace Sys2Proof.Machine

/-- LANE_WEIGHING holds while the window is TARING or WEIGHING (R171). -/
def WindowState.lit : WindowState → Bool
  | .closed => false
  | .taring => true
  | .opened => false
  | .weighing => true

/-- Changes a lane's window and hands the block its LANE_WEIGHING condition (R171). -/
def State.moveWindow (s : State) (l : Lane) (f : Window → Window) : State :=
  (s.updWindow l f).notice fun v =>
    { v with weighing := v.weighing.set l (f (s.lwu.get l).window).state.lit }

/-- A window at its creation: the next number, its figures cleared, and the weighbridge-lost flag as the line stands
(R161). The claims are kept. -/
def Window.created (w : Window) (line : LineCond) : Window :=
  { w with
    number := (w.number + 1) % 65536
    tare := none
    contrib := ⟨.zero, .zero⟩
    bridgeLost := decide (line = .lost)
    gross := none }

/-- Whether no claim waits. -/
def Window.noClaims (w : Window) : Bool := !(w.claims.lower || w.claims.upper)

/-- A claim of a lane spout, as the window stands (R163). Answers whether the spout is released at once. -/
def State.claimTare (s : State) (sp : Spout) : State × Bool :=
  let u := s.lwu.get sp.lane
  match u.window.state with
  | .closed =>
    (s.moveWindow sp.lane fun w =>
      { w.created u.line with
        state := .taring
        claims := w.claims.set sp.side true
        timer := some ⟨.tare, s.now + u.params.tareTimeout * 1000⟩ }, false)
  | .taring => (s.updWindow sp.lane fun w => { w with claims := w.claims.set sp.side true }, false)
  | .opened => (s, true)
  | .weighing => (s.updWindow sp.lane fun w => { w with claims := w.claims.set sp.side true }, false)

/-- A claim withdrawn: a TARING window left with no claim closes (R165). -/
def State.withdrawClaim (s : State) (sp : Spout) : State :=
  let s := s.updWindow sp.lane fun w => { w with claims := w.claims.set sp.side false }
  let w := (s.lwu.get sp.lane).window
  if w.state = .taring ∧ w.noClaims = true then
    s.moveWindow sp.lane fun w => { w with state := .closed, timer := none }
  else s

/-- Whether the window gathers reports (R166). -/
def WindowState.gathers : WindowState → Bool
  | .closed => false
  | .taring => false
  | .opened => true
  | .weighing => true

/-- Changes what the window has gathered from a spout, while it is OPEN or WEIGHING (R166). -/
def State.gather (s : State) (sp : Spout) (f : Contribution → Contribution) : State :=
  s.updWindow sp.lane fun w =>
    if w.state.gathers then { w with contrib := w.contrib.set sp.side (f (w.contrib.get sp.side)) }
    else w

/-- The lane report of one item (R28, R166). -/
def State.laneReport (s : State) (sp : Spout) (grams : Nat) (sub overr : Bool) : State :=
  s.gather sp fun c =>
    { c with
      grams := satAdd Config.massMax c.grams grams
      subCount := satAdd Config.countMax c.subCount sub.toNat
      overCount := satAdd Config.countMax c.overCount overr.toNat }

/-- The suspension notice of a lane spout (R166). -/
def State.suspensionNotice (s : State) (sp : Spout) : State :=
  s.gather sp fun c => { c with suspended := true }

/-- Whether a spout of the lane is in an active state. -/
def State.laneActive (s : State) (l : Lane) : Bool :=
  (s.sc.get (l.spout .lower)).state.isActive || (s.sc.get (l.spout .upper)).state.isActive

/-- The notice that a spout has left the active group: an OPEN window whose lane holds no active spout moves to
WEIGHING with the GROSS timer (R167). -/
def State.laneLeft (s : State) (l : Lane) : State :=
  let u := s.lwu.get l
  if u.window.state = .opened ∧ s.laneActive l = false then
    s.moveWindow l fun w =>
      { w with
        state := .weighing
        timer := some ⟨.gross, s.now + u.params.grossTimeout * 1000⟩ }
  else s

end Sys2Proof.Machine
end

