-- ==== Sys2Proof/Machine/Flow.lean ====
section
/-! DEFINITION. The Flow Computer's own steps: from raw count to flow, the filter window, integration, the line
notices, the tracking condition, and the zero (R20 to R37). -/

namespace Sys2Proof.Machine

/-! ## Stored values (R20) -/

/-- Stores a span, clamped (R20, R37). -/
def Fc.setSpan (f : Fc) (v : Int) : Fc := { f with span := (clampInt 1 Config.spanMax v).toNat }

/-- Stores a learned correction, clamped to the spout's Lmax (R20, R37). -/
def Fc.setCorr (f : Fc) (lmax : Nat) (v : Int) : Fc := { f with corr := clampInt (-(lmax : Int)) lmax v }

/-! ## Tracking condition (R33) -/

/-- The spout is IDLE, both gates report closed and the line is LIVE (R33). -/
def Fc.tracking (f : Fc) : Bool :=
  f.idleView && decide (f.coarseView = .active) && decide (f.fineView = .active) &&
    decide (f.lineView = .live)

/-- The zero-track timer starts when the tracking condition begins to hold and stops when it fails (R33). -/
def Fc.retrack (f : Fc) (expiry : Nat) : Fc :=
  { f with
    zeroTimer :=
      if f.tracking then (match f.zeroTimer with | none => some expiry | some t => some t) else none }

/-- The expiry of a zero-track timer started now. -/
def State.zeroExpiry (s : State) (sp : Spout) : Nat := s.now + (s.params.get sp).zeroTrack

/-- A change of what the tracking condition is made of (R33). -/
def State.updTracking (s : State) (sp : Spout) (f : Fc → Fc) : State :=
  s.updFc sp fun c => (f c).retrack (s.zeroExpiry sp)

/-- Restarts a running zero-track timer at the full zero-track time (R33). -/
def Fc.restartZero (f : Fc) (expiry : Nat) : Fc :=
  { f with zeroTimer := f.zeroTimer.map fun _ => expiry }

/-! ## One item (R22 to R28) -/

/-- The flow of a net count before the ceiling: rounded half up (R23). -/
def rawFlow (net span : Nat) : Nat := (net * span + 2048) / 4096

/-- Enters a flow in the window and recomputes the filtered flow (R25). -/
def Fc.enter (f : Fc) (w q : Nat) : Fc :=
  let win := keepLast w (f.window ++ [q])
  { f with window := win, qFilt := roundedMean win }

/-- Integrates one flow over 10 ms: the whole grams leave the residue (R26) for the active order or the stray mass
(R27), then the lane report is handed over (R28). -/
def State.integrate (s : State) (sp : Spout) (q : Nat) (sub overr : Bool) : State :=
  let f := (s.fc.get sp).enter (s.params.get sp).w q
  let r := f.residue + 10 * q
  let grams := r / 1000
  let s := s.updFc sp fun _ => { f with residue := r % 1000 }
  let s :=
    match f.active with
    | some i => s.updSlot i fun rec => rec.addItem grams sub overr
    | none => s.updFc sp fun f => { f with stray := satAdd Config.massMax f.stray grams }
  s.laneReport sp grams sub overr

/-- Takes a sample delivery: net count, flow, ceiling, overrange mark and the raw count history (R22, R23, R32). -/
def State.fcSample (s : State) (sp : Spout) (x : RawSample) : State :=
  let f := s.fc.get sp
  let q := rawFlow (x.count - f.zero) f.span
  let s := s.updFc sp fun f => { f with history := keepLast Config.historyDepth (f.history ++ [x.count]) }
  s.integrate sp (min q Config.qMax) false (decide (Config.qMax < q) || x.overload)

/-- Takes a substitution order: the flow is the filtered flow as it stands (R24). -/
def State.fcSubstitute (s : State) (sp : Spout) : State :=
  s.integrate sp (s.fc.get sp).qFilt true false

/-! ## Line notices (R30, R31) -/

/-- The line-lost notice at the Flow Computer (R30). -/
def State.fcLineLost (s : State) (sp : Spout) : State :=
  s.updTracking sp fun f => { f with lineView := .lost, window := [], qFilt := 0, history := [] }

/-- The line-live notice at the Flow Computer (R31). -/
def State.fcLineLive (s : State) (sp : Spout) : State :=
  s.updTracking sp fun f => { f with lineView := .live }

/-! ## Zero (R32, R34, R35) -/

/-- The zero candidate: the rounded mean of the counts held, and none when none is held (R32). -/
def Fc.candidate (f : Fc) : Option Nat :=
  if f.history.isEmpty then none else some (roundedMean f.history)

/-- The distance of two counts. -/
def distance (a b : Nat) : Nat := (a - b) + (b - a)

/-- What an expiry of the zero-track timer does with the candidate (R34). -/
def State.trackZero (s : State) (sp : Spout) : State :=
  let f := s.fc.get sp
  match f.candidate with
  | none => s
  | some c =>
    let s := s.updFc sp fun f => { f with lastCandidate := some c }
    if c = f.zero then s
    else if distance c f.zero ≤ (s.params.get sp).zeroBand then
      (s.updFc sp fun f => { f with zero := c }).pushEvent (.spout sp)
        (.zeroCaptured f.zero c f.history.length)
    else s.pushEvent (.spout sp) (.zeroDrift f.zero c f.history.length)

/-- What an accepted ZERO request does with the candidate (R35). -/
def State.captureZero (s : State) (sp : Spout) : State :=
  let f := s.fc.get sp
  match f.candidate with
  | none => s
  | some c =>
    let s := s.updFc sp fun f =>
      { f.restartZero (s.zeroExpiry sp) with lastCandidate := some c, zero := c }
    if c = f.zero then s
    else s.pushEvent (.spout sp) (.zeroCaptured f.zero c f.history.length)

end Sys2Proof.Machine
end

