-- ==== Sys2Proof/Machine/Gates.lean ====
section
/-! DEFINITION. The fixed outputs of a spout and the supervision of gate travel (R49 to R54). -/

namespace Sys2Proof.Machine

/-- A gate command as its supervision takes it (R51): the moment the command falls, the gate travel time and the
filtered level of the closed switch. -/
def GateSup.command (open? : Bool) (now travel : Nat) (switch : Level) (g : GateSup) : GateSup :=
  if open? then
    match g.state with
    | .closed => ⟨.opening, some (now + travel)⟩
    | .opening => g
    | .opened => g
    | .closing => ⟨.opened, none⟩
    | .unproven => ⟨.opened, none⟩
  else
    match g.state with
    | .closed => g
    | .opening => ⟨.closed, none⟩
    | .opened => if switch = .active then ⟨.closed, none⟩ else ⟨.closing, some (now + travel)⟩
    | .closing => g
    | .unproven => g

/-- A settling of the gate's closed switch: the state it leads to and the fault it raises (R52). -/
def GateSup.settle (switch : Level) (g : GateSup) : GateSup × Option GateFaultKind :=
  match switch, g.state with
  | .active, .closing => (⟨.closed, none⟩, none)
  | .active, .unproven => (⟨.closed, none⟩, none)
  | .inactive, .closed => (⟨.unproven, none⟩, some .dropped)
  | .inactive, .opening => (⟨.opened, none⟩, none)
  | _, _ => (g, none)

/-- The expiry of the travel timer (R52). -/
def GateSup.expire (g : GateSup) : GateSup × Option GateFaultKind :=
  match g.state with
  | .opening => (⟨.opened, none⟩, some .failedOpen)
  | .closing => (⟨.unproven, none⟩, some .failedClose)
  | _ => ({ g with timer := none }, none)

/-- The closed limit switch of a gate (R41). -/
def gateSwitch : Gate → SpoutInput
  | .coarse => .coarseClosed
  | .fine => .fineClosed

def State.gate (s : State) (sp : Spout) (g : Gate) : GateSup := (s.iob.gates.get sp).get g

def State.setGate (s : State) (sp : Spout) (g : Gate) (v : GateSup) : State :=
  s.updIob fun b => { b with gates := b.gates.set sp ((b.gates.get sp).set g v) }

/-- Hands a gate command to the gate's supervision (R51). -/
def State.superviseCommand (s : State) (sp : Spout) (g : Gate) (open? : Bool) : State :=
  s.setGate sp g <|
    (s.gate sp g).command open? s.now (s.params.get sp).gateTravel (s.level sp (gateSwitch g))

/-- The Spout Controller commands the three outputs of its spout together, in one step with their supervision (R49). -/
def State.commandOutputs (s : State) (sp : Spout) (coarse fine aeration : Bool) : State :=
  ((s.updIob fun b =>
      { b with
        coarseOut := b.coarseOut.set sp coarse
        fineOut := b.fineOut.set sp fine
        aeration := b.aeration.set sp aeration }).superviseCommand sp .coarse coarse).superviseCommand
    sp .fine fine

/-- Both gates closed and AERATION off (R82). -/
def State.outputsOff (s : State) (sp : Spout) : State := s.commandOutputs sp false false false

end Sys2Proof.Machine
end

