-- ==== Sys2Proof/Machine/Spout.lean ====
section
/-! DEFINITION. The Spout Controller and the Feed Arbiter: state changes and their notices, grants, the points of
decision, the settle, abort causes, suspension, the lockout set and the feed condition (chapters 5, 7 and 8). -/

namespace Sys2Proof.Machine

/-! ## The Feed Arbiter's own items (R139 to R144, R150) -/

/-- The number of grant holders. -/
def Fa.holderCount (f : Fa) : Nat := (f.holders.toList.filter id).length

/-- HOLD_ACK is on exactly when FEED_HOLD is on and no grant is held (R150). -/
def Fa.holdAck (f : Fa) : Bool := decide (f.feedHoldView = .active) && decide (f.holderCount = 0)

/-- Changes the arbiter and hands the Input/Output Block the HOLD_ACK level that follows (R50, R150). -/
def State.updFa (s : State) (f : Fa → Fa) : State :=
  { s with fa := f s.fa, iob := { s.iob with holdAck := (f s.fa).holdAck } }

/-- Appends a feed request at the tail; a spout already in the list keeps its place (R140). -/
def State.requestFeed (s : State) (sp : Spout) : State :=
  s.updFa fun f => if sp ∈ f.requests then f else { f with requests := f.requests ++ [sp] }

/-- A request withdrawn: the others keep their order (R143). -/
def State.withdrawFeed (s : State) (sp : Spout) : State :=
  s.updFa fun f => { f with requests := f.requests.filter (· ≠ sp) }

/-- A grant released; a release from a spout that is not a holder leaves the holders as they were (R142). -/
def State.releaseGrant (s : State) (sp : Spout) : State :=
  (s.updSc sp fun c => { c with grantHeld := false }).updFa fun f =>
    { f with holders := f.holders.set sp false }

/-- The feed condition of two input views (R144). -/
def feedCondition (feedHold airOk : Level) : FeedCond :=
  match feedHold, airOk with
  | .inactive, .active => .normal
  | .active, .active => .hold
  | .inactive, .inactive => .airFault
  | .active, .inactive => .holdAirFault
  | _, _ => .unknown

/-! ## State changes (R83) -/

/-- A change of spout state with its notices to the Input/Output Block and the Flow Computer (R56, R83). -/
def State.setSpoutState (s : State) (sp : Spout) (st : SpoutState) : State :=
  let s := s.updSc sp fun c => { c with state := st }
  let s := s.notice fun v =>
    { v with active := v.active.set sp st.isActive, flowing := v.flowing.set sp st.isFlowing }
  s.updTracking sp fun f => { f with idleView := decide (st = .idle) }

def State.setStage (s : State) (sp : Spout) (t : Option StageTimer) : State :=
  s.updSc sp fun c => { c with stage := t }

/-- Returns a spout to IDLE: outputs off, grant released, stage timer stopped, deadline absent, and the Lane Weighing
Unit told that the spout has left the active group (R82, R83, R103, R125). -/
def State.enterIdle (s : State) (sp : Spout) : State :=
  let s := (s.outputsOff sp).releaseGrant sp
  let s := s.updSc sp fun c => { c with stage := none, deadline := none }
  (s.setSpoutState sp .idle).laneLeft sp.lane

/-- WAIT_FEED: the FEED_WAIT timer and the feed request (R91). -/
def State.enterWaitFeed (s : State) (sp : Spout) : State :=
  let s := s.setSpoutState sp .waitFeed
  (s.setStage sp (some ⟨.feedWait, s.now + (s.params.get sp).feedWait * 1000⟩)).requestFeed sp

/-- The release of a claim reaches a spout in TARE (R90). -/
def State.releaseClaim (s : State) (sp : Spout) : State :=
  if (s.sc.get sp).state = .tare then s.enterWaitFeed sp else s

/-- A settle: gates closed, grant released, the deadline and the first run of the SETTLE timer (R99, R123). -/
def State.startSettle (s : State) (sp : Spout) (st : SpoutState) : State :=
  let s := (s.outputsOff sp).releaseGrant sp
  let p := s.params.get sp
  let s := s.updSc sp fun c =>
    { c with
      stage := some ⟨.settle, s.now + p.settle⟩
      deadline := some (s.now + p.settleMax) }
  s.setSpoutState sp st

/-- Writes M as it stands into the active order's fine cutoff mass (R69). -/
def State.writeCutoff (s : State) (sp : Spout) : State :=
  match (s.sc.get sp).active with
  | none => s
  | some i => s.updSlot i fun r => { r with fineCutoff := some r.mass }

/-- The decision that M has reached F takes the load to SETTLE (R69, R92, R95 to R97, R99). -/
def State.reachFine (s : State) (sp : Spout) : State := (s.writeCutoff sp).startSettle sp .settle

/-- FINE: the coarse gate closed, the fine gate open, AERATION on, and no stage timer (R81, R82). -/
def State.enterFine (s : State) (sp : Spout) : State :=
  ((s.commandOutputs sp false true true).setStage sp none).setSpoutState sp .fine

/-- COARSE: both gates open, AERATION on, and no stage timer (R81, R82). -/
def State.enterCoarse (s : State) (sp : Spout) : State :=
  ((s.commandOutputs sp true true true).setStage sp none).setSpoutState sp .coarse

/-! ## Decisions (R112) -/

/-- What a decision compares M with: whether M has reached F, and whether M has reached C, from the M, q_filt and L of
the moment (R108 to R112). -/
structure Reached where
  fine : Bool
  coarse : Bool
  deriving DecidableEq, Repr

/-- A comparison of the record's M with the thresholds formed afresh (R108 to R112). -/
def reached (r : SlotRec) (f : Fc) (p : SpoutParams) : Reached :=
  let pre := preact r.target f.qFilt p.flight f.corr
  { fine := decide (fineThreshold r.target pre ≤ r.mass)
    coarse := decide (coarseThreshold r.target (dribbleInUse r.dribble p.dribble) pre ≤ r.mass) }

/-- The comparison of a spout's active order; none when it has none. -/
def State.decision (s : State) (sp : Spout) : Option Reached :=
  (s.sc.get sp).active.map fun i => reached (s.ot.slot i) (s.fc.get sp) (s.params.get sp)

/-- The decision at the PRIME expiry (R95). -/
def State.primeDecision (s : State) (sp : Spout) : State :=
  match s.decision sp with
  | none => s
  | some ⟨true, _⟩ => s.reachFine sp
  | some ⟨false, true⟩ => s.enterFine sp
  | some ⟨false, false⟩ => s.enterCoarse sp

/-- AERATE: AERATION on and the PRIME timer; with a prime time of 0 the timer expires in the entry step (R94). -/
def State.enterAerate (s : State) (sp : Spout) : State :=
  let s := (s.commandOutputs sp false false true).setSpoutState sp .aerate
  let prime := (s.params.get sp).prime
  if prime = 0 then (s.setStage sp none).primeDecision sp
  else s.setStage sp (some ⟨.prime, s.now + prime⟩)

/-- A grant taken in WAIT_FEED or SUSPENDED: SETTLE when M has reached F, handing the grant back unused, else AERATE
(R92, R133). -/
def State.takeGrant (s : State) (sp : Spout) : State :=
  let s := s.updSc sp fun c => { c with grantHeld := true, stage := none, cause := none }
  match s.decision sp with
  | some ⟨true, _⟩ => s.reachFine sp
  | _ => s.enterAerate sp

/-! ## Granting (R141) -/

/-- Grants to the head of the list, and again to each new head, while the feed condition is NORMAL and fewer than G
spouts hold grants (R141, R149). Each turn takes one spout from the list, so as many turns as the list is long are
enough. -/
def State.grantTurns : Nat → State → State
  | 0, s => s
  | n + 1, s =>
    match s.fa.requests with
    | [] => s
    | sp :: rest =>
      if s.fa.condition = .normal ∧ s.fa.holderCount < s.fa.g then
        State.grantTurns n <|
          (s.updFa fun f => { f with requests := rest, holders := f.holders.set sp true }).takeGrant sp
      else s

/-- The test for a grant at the end of a step (R141). -/
def State.testGrant (s : State) : State := State.grantTurns s.fa.requests.length s

/-! ## Suspension (R131, R132) -/

/-- Adds 1 to the suspension count of a spout's active order, saturating (R132). -/
def State.countSuspension (s : State) (sp : Spout) : State :=
  match (s.sc.get sp).active with
  | none => s
  | some i => s.updSlot i fun r => { r with suspCount := satAdd 255 r.suspCount 1 }

/-- Suspends a load (R132), with the suspension notice to the Lane Weighing Unit (R166). -/
def State.suspend (s : State) (sp : Spout) (cause : SuspendCause) : State :=
  let s := s.setStage sp none
  let s := (s.outputsOff sp).releaseGrant sp
  let s := s.updSc sp fun c => { c with cause := some cause }
  let s := s.countSuspension sp
  let s := s.setStage sp (some ⟨.suspend, s.now + (s.params.get sp).suspend * 1000⟩)
  let s := s.requestFeed sp
  (s.setSpoutState sp .suspended).suspensionNotice sp

/-- A suspension request of the Feed Arbiter, decided by state and cause (R131). -/
def State.suspendRequest (s : State) (sp : Spout) (cause : SuspendCause) : State :=
  match (s.sc.get sp).state, cause with
  | .aerate, _ => s.suspend sp cause
  | .coarse, .airFault => s.suspend sp cause
  | .fine, .airFault => s.suspend sp cause
  | _, _ => s

/-- Hands every grant holder a suspension request, in spout order (R145, R146). -/
def State.suspendHolders (s : State) (cause : SuspendCause) : State :=
  Spout.all.foldl (fun s sp => if s.fa.holders.get sp then s.suspendRequest sp cause else s) s

/-- A sample report (R96 to R98). -/
def State.sampleReport (s : State) (sp : Spout) : State :=
  match (s.sc.get sp).state, s.decision sp with
  | .coarse, some ⟨true, _⟩ => s.reachFine sp
  | .coarse, some ⟨false, true⟩ =>
    if s.fa.condition = .hold then s.suspend sp .feedHold else s.enterFine sp
  | .fine, some ⟨true, _⟩ => s.reachFine sp
  | _, _ => s

/-! ## The lockout set (R135, R136) -/

def LockoutSet.has (t : LockoutSet) : LockoutReason → Bool
  | .spoutLifted => t.spoutLifted
  | .vehicleLeft => t.vehicleLeft
  | .gateFault => t.gateFault
  | .gateLeak => t.gateLeak
  | .sensorLost => t.sensorLost

def LockoutSet.add (t : LockoutSet) : LockoutReason → LockoutSet
  | .spoutLifted => { t with spoutLifted := true }
  | .vehicleLeft => { t with vehicleLeft := true }
  | .gateFault => { t with gateFault := true }
  | .gateLeak => { t with gateLeak := true }
  | .sensorLost => { t with sensorLost := true }

def ReasonSet.add (t : ReasonSet) : AbortReason → ReasonSet
  | .hostStop => { t with hostStop := true }
  | .hostWithdraw => { t with hostWithdraw := true }
  | .spoutLifted => { t with spoutLifted := true }
  | .vehicleLeft => { t with vehicleLeft := true }
  | .levelProbe => { t with levelProbe := true }
  | .gateFault => { t with gateFault := true }
  | .gateLeak => { t with gateLeak := true }
  | .sensorLost => { t with sensorLost := true }
  | .feedTimeout => { t with feedTimeout := true }
  | .suspendTimeout => { t with suspendTimeout := true }
  | .restart => { t with restart := true }

/-- A reason enters the lockout set: LOCKOUT_SET is queued when the set did not hold it, with the state in which the
cause was taken, and the SPOUT_LOCKOUT condition follows (R136). -/
def State.enterLockout (s : State) (sp : Spout) (r : LockoutReason) : State :=
  let c := s.sc.get sp
  if c.lockout.has r then s
  else
    let s := s.updSc sp fun c => { c with lockout := c.lockout.add r }
    let s := s.pushEvent (.spout sp) (.lockoutSet r (c.lockout.add r) c.state)
    s.notice fun v => { v with lockout := v.lockout.set sp true }

/-- The lockout reason that an abort reason enters when its cause is taken in a state (R135). -/
def AbortReason.lockout (r : AbortReason) (st : SpoutState) : Option LockoutReason :=
  let feeding :=
    match st with
    | .idle => false
    | .tare => false
    | .waitFeed => false
    | _ => true
  match r with
  | .gateFault => some .gateFault
  | .spoutLifted => if feeding then some .spoutLifted else none
  | .vehicleLeft => if feeding then some .vehicleLeft else none
  | .sensorLost => if feeding then some .sensorLost else none
  | .gateLeak => if st = .settle ∨ st = .aborting then some .gateLeak else none
  | _ => none

/-- Enters an abort cause in the lockout set when its reason and the state call for it (R135). -/
def State.lockoutCause (s : State) (sp : Spout) (r : AbortReason) : State :=
  match r.lockout (s.sc.get sp).state with
  | none => s
  | some l => s.enterLockout sp l

/-! ## Abort causes (R120 to R127) -/

/-- Adds a reason to the gathered abort reasons and, when it calls for it, to the lockout set (R121, R135). -/
def State.gatherCause (s : State) (sp : Spout) (r : AbortReason) : State :=
  (s.updSc sp fun c => { c with reasons := c.reasons.add r }).lockoutCause sp r

/-- The order ends ABORTED with the gathered reasons and the spout returns to IDLE (R122, R125). -/
def State.endAborted (s : State) (sp : Spout) : State :=
  (s.endOrder sp (.abort (s.sc.get sp).reasons)).enterIdle sp

/-- An abort cause, by the state in which it is taken (R120, R122 to R124, R126, R127). -/
def State.abortCause (s : State) (sp : Spout) (r : AbortReason) : State :=
  match (s.sc.get sp).state with
  | .idle => if r = .gateFault then s.lockoutCause sp r else s
  | .tare => ((s.gatherCause sp r).withdrawClaim sp).endAborted sp
  | .waitFeed => (((s.gatherCause sp r).setStage sp none).withdrawFeed sp).endAborted sp
  | .aerate => (s.gatherCause sp r).startSettle sp .aborting
  | .coarse => (s.gatherCause sp r).startSettle sp .aborting
  | .fine => (s.gatherCause sp r).startSettle sp .aborting
  | .suspended =>
    (((s.gatherCause sp r).withdrawFeed sp).updSc sp fun c => { c with cause := none }).startSettle
      sp .aborting
  | .settle => (s.gatherCause sp r).setSpoutState sp .aborting
  | .aborting => s.gatherCause sp r

/-! ## The settle decision (R100 to R103, R114 to R116, R125) -/

/-- Whether an order qualifies for learning at its normal end (R114). -/
def qualifies (r : SlotRec) (p : SpoutParams) : Bool :=
  decide (r.subCount = 0) && decide (r.suspCount = 0) &&
    decide (((r.mass : Int) - r.target).natAbs ≤ p.adaptBand)

/-- A normal end: class, learning step, end notice, IDLE (R102, R103, R116). -/
def State.normalEnd (s : State) (sp : Spout) : State :=
  match (s.sc.get sp).active with
  | none => s.enterIdle sp
  | some i =>
    let r := s.ot.slot i
    let p := s.params.get sp
    let e : Int := (r.mass : Int) - r.target
    let cls := fillClass e (r.overTol.getD p.overTol) (r.underTol.getD p.underTol)
    let learned := qualifies r p
    let s :=
      if learned then s.updFc sp fun f => f.setCorr p.lmax (f.corr + learningStep e p.gp) else s
    (s.endOrder sp (.normal cls learned)).enterIdle sp

/-- The settle decision of an expiry in SETTLE or ABORTING: the end, an extension of at most 500 ms, or at the deadline
a leak (R100, R101, R103, R125). -/
def State.settleDecision (s : State) (sp : Spout) : State :=
  let c := s.sc.get sp
  if (s.fc.get sp).qFilt ≤ (s.params.get sp).leak then
    if c.state = .aborting then s.endAborted sp else s.normalEnd sp
  else
    match c.deadline with
    | some d =>
      if s.now < d then
        s.setStage sp (some ⟨.settle, min (s.now + Config.settleStep) d⟩)
      else (s.gatherCause sp .gateLeak).endAborted sp
    | none => (s.gatherCause sp .gateLeak).endAborted sp

/-! ## The feed condition (R145) -/

/-- A change of the feed condition, up to its test for a grant (R145). -/
def State.changeCondition (s : State) (new : FeedCond) : State :=
  let old := s.fa.condition
  let s := s.updFa fun f => { f with condition := new }
  let s :=
    match new with
    | .airFault => s.suspendHolders .airFault
    | .holdAirFault => s.suspendHolders .airFault
    | .hold => s.suspendHolders .feedHold
    | _ => s
  let s := s.notice fun v => { v with feedHeld := decide (new ≠ .normal) }
  s.pushEvent .station
    (.feedState old new s.fa.holderCount s.fa.requests.length s.fa.holdAck)

/-- A change notice of FEED_HOLD or AIR_OK at the Feed Arbiter: the view, HOLD_ACK as it then stands, and the step of
R145 when the condition changes. DESIGN CHOICE: a FEED_HOLD that first settles active while AIR_OK is unsettled turns
HOLD_ACK on in that step, as R150 has it, and not first in the step of R145 when both have settled, as R152 can be read
(log entry 28). -/
def State.feedNotice (s : State) (f : Fa → Fa) : State :=
  let s := s.updFa f
  let new := feedCondition s.fa.feedHoldView s.fa.airOkView
  if new = s.fa.condition then s else s.changeCondition new

end Sys2Proof.Machine
end

