-- ==== Sys2Proof/Machine/Inputs.lean ====
section
/-! DEFINITION. The discrete inputs: raw changes, settling, change notices, and the gate travel timers (R42 to R45,
R52, R53). -/

namespace Sys2Proof.Machine

/-- Reports a gate fault, if one was raised, to the Spout Controller (R53). -/
def State.gateOutcome (s : State) (sp : Spout) (g : Gate) (out : GateSup × Option GateFaultKind) : State :=
  let s := s.setGate sp g out.1
  match out.2 with
  | none => s
  | some _ => s.abortCause sp .gateFault

/-- A settling of a gate's closed switch at the supervision (R52). -/
def State.switchSettled (s : State) (sp : Spout) (g : Gate) (level : Level) : State :=
  s.gateOutcome sp g ((s.gate sp g).settle level)

/-- The Spout Controller's view of an input. -/
def Sc.view (c : Sc) : SpoutInput → Level
  | .spoutDown => c.spoutDownView
  | .vehicle => c.vehicleView
  | .level => c.levelView
  | _ => .unsettled

def Sc.setView (c : Sc) (k : SpoutInput) (v : Level) : Sc :=
  match k with
  | .spoutDown => { c with spoutDownView := v }
  | .vehicle => { c with vehicleView := v }
  | .level => { c with levelView := v }
  | _ => c

/-- The abort cause of a change notice, if the level is one (R120). -/
def inputCause (k : SpoutInput) (level : Level) : Option AbortReason :=
  match k, level with
  | .spoutDown, .inactive => some .spoutLifted
  | .vehicle, .inactive => some .vehicleLeft
  | .level, .active => some .levelProbe
  | _, _ => none

/-- A change notice at the Spout Controller: judged against its view, which it then sets; a notice that finds the view
unsettled is the first settling and no cause (R120). -/
def State.scNotice (s : State) (sp : Spout) (k : SpoutInput) (level : Level) : State :=
  let s :=
    if (s.sc.get sp).view k = .unsettled then s
    else
      match inputCause k level with
      | none => s
      | some r => s.abortCause sp r
  s.updSc sp fun c => c.setView k level

/-- A change notice to the blocks that act on the input (R44). -/
def State.changeNotice (s : State) (i : InputId) (level : Level) : State :=
  match i with
  | .spout sp .coarseClosed =>
    (s.updTracking sp fun f => { f with coarseView := level }).switchSettled sp .coarse level
  | .spout sp .fineClosed =>
    (s.updTracking sp fun f => { f with fineView := level }).switchSettled sp .fine level
  | .spout sp k => s.scNotice sp k level
  | .feedHold => s.feedNotice fun f => { f with feedHoldView := level }
  | .airOk => s.feedNotice fun f => { f with airOkView := level }

/-- The source that an input's events carry (R43). -/
def InputId.source : InputId → EventSource
  | .spout sp _ => .spout sp
  | .feedHold => .station
  | .airOk => .station

/-- An input settles at its raw level: the first settling sets the level alone (R45); a settling at another level sets
the level and the change latch and queues INPUT_CHANGE when the report enable is on (R43); either hands over its
change notice (R44). A settling at the same level changes nothing but the timer (R43). -/
def State.settleInput (s : State) (i : InputId) : State :=
  let v := s.input i
  let level := Level.ofRaw v.raw
  if v.filtered = level then s.setInput i { v with timer := none }
  else if v.filtered = .unsettled then
    (s.setInput i { v with filtered := level, timer := none }).changeNotice i level
  else
    let s := s.setInput i { v with filtered := level, timer := none, latch := true }
    let s := if v.report then s.pushEvent (InputId.source i) (.inputChange i level) else s
    s.changeNotice i level

/-- A change of an input's raw level: the debounce timer starts or restarts when the raw level differs from the
filtered level, and stops when it equals it; with a debounce time of 0 the input settles at once (R42, R45). -/
def State.rawChange (s : State) (i : InputId) (active : Bool) : State :=
  let v := { s.input i with raw := active }
  if v.filtered = Level.ofRaw active then s.setInput i { v with timer := none }
  else if s.iob.debounce = 0 then (s.setInput i v).settleInput i
  else s.setInput i { v with timer := some (s.now + s.iob.debounce) }

/-! ## The commands -/

/-- INPUT_RAW_CHANGE (R42). A level that is the raw level already is no change. While a reset is held the terminal's
level is kept and nothing settles. -/
def execInputRawChange (i : InputId) (active : Bool) (s : State) : Host.Outcome State Fault Refusal :=
  .next <|
    if (s.input i).raw = active then s
    else if s.rst.held.isSome then s.setInput i { s.input i with raw := active }
    else (s.rawChange i active).testGrant

/-- DEBOUNCE_EXPIRY (R42). -/
def execDebounceExpiry (i : InputId) (s : State) : Host.Outcome State Fault Refusal :=
  .next <| s.whenRunning fun s =>
    match (s.input i).timer with
    | none => s
    | some t => ((s.reach t).settleInput i).testGrant

/-- GATE_TRAVEL_EXPIRY (R52). -/
def execGateTravelExpiry (sp : Spout) (g : Gate) (s : State) : Host.Outcome State Fault Refusal :=
  .next <| s.whenRunning fun s =>
    match (s.gate sp g).timer with
    | none => s
    | some t => ((s.reach t).gateOutcome sp g ((s.gate sp g).expire)).testGrant

end Sys2Proof.Machine
end

