-- ==== Sys2Proof/Machine/SensorLine.lean ====
section
/-! DEFINITION. The Sensor Line Receiver (chapter 1) and the zero-track timer (R34). -/

namespace Sys2Proof.Machine

/-! ## Framing, shared by the sensor lines and the weighbridge lines (R3, R6, R156, R157) -/

/-- The re-examination of the bytes after a rejected header: from the first header candidate on they make a new partial
frame, whose gap timer starts when the re-examination ends (R6, R157). -/
def reexamine (candidate : Byte → Bool) (gap : Nat) (bytes : List Byte) : Framing :=
  match bytes.dropWhile fun b => !candidate b with
  | [] => .hunt
  | rest => .collect rest gap

/-- The exclusive-OR of bytes. -/
def xorBytes (bytes : List Byte) : Byte := bytes.foldl (· ^^^ ·) 0

/-- A sensor header candidate: the three most significant bits are 101 (R2). -/
def sensorCandidate (b : Byte) : Bool := b.extractLsb' 5 3 == 5#3

/-! ## Handing items over -/

/-- A delivered real sample: the Flow Computer takes it, the Spout Controller is told, and the consecutive substitution
count is 0 (R5, R9, R14, R15, R28). -/
def State.deliver (s : State) (sp : Spout) (x : RawSample) : State :=
  let s := s.updSlr sp fun r => { r with subRun := 0 }
  if (s.fc.get sp).lineView = .live then (s.fcSample sp x).sampleReport sp else s

/-- The line goes LOST (R11). -/
def State.lineLost (s : State) (sp : Spout) : State :=
  let s := s.updSlr sp fun r => { r with line := .lost, subRun := 0, goodRun := 0, hold := [] }
  let s := s.fcLineLost sp
  let s := (s.abortCause sp .sensorLost).updSc sp fun c => { c with lineView := .lost }
  let r := s.slr.get sp
  s.pushEvent (.spout sp) (.sensorLost r.badCheck r.subCount)

/-- One substitution order, then the test of the limit (R9, R10). -/
def State.substituteOne (s : State) (sp : Spout) : State :=
  let s := s.updSlr sp fun r =>
    { r with subRun := r.subRun + 1, subCount := satAdd Config.countMax r.subCount 1 }
  let s := if (s.fc.get sp).lineView = .live then (s.fcSubstitute sp).sampleReport sp else s
  if (s.params.get sp).subLimit ≤ (s.slr.get sp).subRun then s.lineLost sp else s

/-- The two substitution orders of a watch expiry or a HEAD_FAULT frame; the second is not issued when the first reached
the limit (R9, R10). -/
def State.substitutePair (s : State) (sp : Spout) : State :=
  let s := s.substituteOne sp
  if (s.slr.get sp).line = .live then s.substituteOne sp else s

/-- The restore run broken, in LOST (R13). -/
def Slr.breakRun (r : Slr) : Slr :=
  if r.line = .lost then { r with goodRun := 0, hold := [] } else r

/-- The third step of a restore run (R14). DESIGN CHOICE: a line never acquired since the cold reset is restored without
SENSOR_RESTORED after a warm restart too, as R14 step 3 has it with the first-acquisition flag that R19 keeps, although R19 also
says that a restoration after a warm restart queues it (log entry 29). -/
def State.restoreLine (s : State) (sp : Spout) (samples : List RawSample) : State :=
  let r := s.slr.get sp
  let s := s.updSlr sp fun r => { r with line := .live, goodRun := 0, hold := [], firstAcq := true }
  let s := (s.fcLineLive sp).updSc sp fun c => { c with lineView := .live }
  let s :=
    if r.firstAcq then s.pushEvent (.spout sp) (.sensorRestored r.badCheck r.subCount) else s
  (r.hold ++ samples).foldl (fun s x => s.deliver sp x) s

/-- A good frame without HEAD_FAULT in LOST: one step of the restore run (R12). -/
def State.restoreStep (s : State) (sp : Spout) (samples : List RawSample) : State :=
  let r := s.slr.get sp
  if Config.restoreFrames ≤ r.goodRun + 1 then s.restoreLine sp samples
  else s.updSlr sp fun r => { r with goodRun := r.goodRun + 1, hold := r.hold ++ samples }

/-- The two samples of a frame, each with the frame's OVERLOAD flag (R2). -/
def frameSamples (bytes : List Byte) : List RawSample :=
  let overload := (byteAt 0 bytes).getLsbD 4
  [⟨(wordAt 1 bytes).toNat, overload⟩, ⟨(wordAt 3 bytes).toNat, overload⟩]

/-- HEAD_FAULT of a frame (R2). -/
def headFault (bytes : List Byte) : Bool := (byteAt 0 bytes).getLsbD 3

/-- A good frame (R5). -/
def State.goodFrame (s : State) (sp : Spout) (bytes : List Byte) : State :=
  let s := s.updSlr sp fun r =>
    { r with watch := some (s.now + Config.watchFirst), framing := .hunt }
  match (s.slr.get sp).line, headFault bytes with
  | .live, false => (frameSamples bytes).foldl (fun s x => s.deliver sp x) s
  | .live, true => s.substitutePair sp
  | .lost, false => s.restoreStep sp (frameSamples bytes)
  | .lost, true => s.updSlr sp Slr.breakRun

/-- A frame that fails its check or is abandoned: counted, the restore run broken in LOST, and the bytes after the
header re-examined (R6, R7, R13). -/
def Slr.reject (r : Slr) (bytes : List Byte) (gap : Nat) : Slr :=
  { r.breakRun with
    badCheck := satAdd Config.countMax r.badCheck 1
    framing := reexamine sensorCandidate gap bytes.tail }

/-- A complete frame: its check decides (R4). -/
def State.sensorFrame (s : State) (sp : Spout) (bytes : List Byte) : State :=
  if xorBytes (bytes.take 5) = byteAt 5 bytes then s.goodFrame sp bytes
  else s.updSlr sp fun r => r.reject bytes (s.now + Config.sensorGap)

/-- A byte arrival (R3, R4). -/
def State.sensorByte (s : State) (sp : Spout) (b : Byte) : State :=
  match (s.slr.get sp).framing with
  | .hunt =>
    if sensorCandidate b then
      s.updSlr sp fun r => { r with framing := .collect [b] (s.now + Config.sensorGap) }
    else s
  | .collect bytes _ =>
    let bytes := bytes ++ [b]
    if bytes.length < 6 then
      s.updSlr sp fun r => { r with framing := .collect bytes (s.now + Config.sensorGap) }
    else s.sensorFrame sp bytes

/-- A frame abandoned in COLLECT (R7). -/
def State.abandonSensor (s : State) (sp : Spout) : State :=
  match (s.slr.get sp).framing with
  | .hunt => s
  | .collect bytes _ => s.updSlr sp fun r => r.reject bytes (s.now + Config.sensorGap)

/-! ## The commands -/

/-- SENSOR_BYTE_ARRIVAL (R3, R4). -/
def execSensorByteArrival (sp : Spout) (byte : Byte) (s : State) : Host.Outcome State Fault Refusal :=
  .next <| s.whenRunning fun s => (s.sensorByte sp byte).testGrant

/-- SENSOR_CHARACTER_ERROR: in COLLECT the partial frame is abandoned, in HUNT nothing changes (R3, R7). -/
def execSensorCharacterError (sp : Spout) (s : State) : Host.Outcome State Fault Refusal :=
  .next <| s.whenRunning fun s => s.abandonSensor sp

/-- COLLECTION_GAP_EXPIRY (R7). -/
def execCollectionGapExpiry (sp : Spout) (s : State) : Host.Outcome State Fault Refusal :=
  .next <| s.whenRunning fun s =>
    match (s.slr.get sp).framing with
    | .hunt => s
    | .collect _ gap => (s.reach gap).abandonSensor sp

/-- FRAME_WATCH_EXPIRY: the timer restarts at 20 ms; in LIVE two substitutions are ordered, in LOST the restore run is
broken (R8). -/
def execFrameWatchExpiry (sp : Spout) (s : State) : Host.Outcome State Fault Refusal :=
  .next <| s.whenRunning fun s =>
    match (s.slr.get sp).watch with
    | none => s
    | some t =>
      let s := s.reach t
      let s := s.updSlr sp fun r => { r with watch := some (s.now + Config.watchNext) }
      match (s.slr.get sp).line with
      | .live => (s.substitutePair sp).testGrant
      | .lost => s.updSlr sp Slr.breakRun

/-- ZERO_TRACK_EXPIRY: the timer restarts at the zero-track time (R33) and the candidate is compared with z (R34). -/
def execZeroTrackExpiry (sp : Spout) (s : State) : Host.Outcome State Fault Refusal :=
  .next <| s.whenRunning fun s =>
    match (s.fc.get sp).zeroTimer with
    | none => s
    | some t =>
      let s := s.reach t
      (s.updFc sp fun f => f.restartZero (s.zeroExpiry sp)).trackZero sp

end Sys2Proof.Machine
end

