-- ==== Sys2Proof/Machine/Weighing.lean ====
section
/-! DEFINITION. The Lane Weighing Unit: the weighbridge line, stable readings, the tare, the gross, the outcome and the
span correction (R154 to R171). -/

namespace Sys2Proof.Machine

/-! ## The outcome (R168, R169) -/

/-- Metered mass Nm: the sum of the two contributions, without saturation (R168). -/
def Window.nm (w : Window) : Nat := w.contrib.lower.grams + w.contrib.upper.grams

/-- Weighbridge net mass Nb, present when tare and gross are (R168). -/
def Window.nb (w : Window) : Option Int :=
  match w.tare, w.gross with
  | some t, some g => some (((g : Int) - t) * 1000)
  | _, _ => none

/-- Whether a spout's contribution holds a substituted or overrange sample or a suspension (R168). -/
def Contribution.degraded (c : Contribution) : Bool :=
  decide (0 < c.subCount) || decide (0 < c.overCount) || c.suspended

/-- The band test: |Nb − Nm| × 1000 is greater than Nm × accept band (R168). -/
def outOfBand (nb : Option Int) (nm band : Nat) : Bool :=
  match nb with
  | none => false
  | some nb => decide (nm * band < (nb - nm).natAbs * 1000)

/-- The window's outcome: the first of the conditions that holds, in the order of R168. The gross is absent exactly
when the GROSS timer expired. -/
def Window.outcome (w : Window) (p : LaneParams) : WeighOutcome :=
  if w.nm = 0 then .nothingLoaded
  else if w.tare.isNone then .noTare
  else if w.gross.isNone then .noGross
  else if w.bridgeLost then .weighbridgeLost
  else if w.nm / 100 < w.contrib.lower.grams ∧ w.nm / 100 < w.contrib.upper.grams then .mixed
  else if w.nm < p.nMin then .belowMinimum
  else if w.contrib.lower.degraded || w.contrib.upper.degraded then .degraded
  else if outOfBand w.nb w.nm p.acceptBand then .outOfBand
  else if !w.noClaims then .claimPending
  else .corrected

/-- The single contributor: the spout whose contribution exceeds Nm div 100 (R168). -/
def Window.contributor (w : Window) : Side :=
  if w.nm / 100 < w.contrib.lower.grams then .lower else .upper

/-- The result record of a closing window (R170). -/
def Window.result (w : Window) (o : WeighOutcome) (corrected : Option (Spout × Nat)) : WeighResult :=
  { number := w.number, tare := w.tare, gross := w.gross, nm := w.nm, nb := w.nb,
    contrib := w.contrib, bridgeLost := w.bridgeLost, outcome := o,
    corrected := corrected.map (·.1), newSpan := corrected.map (·.2) }

/-- Keeps a result record as the lane's last result and appends WEIGH_RESULT (R170). -/
def State.reportResult (s : State) (l : Lane) (r : WeighResult) : State :=
  (s.updLwu l fun u => { u with lastResult := some r }).pushEvent (.lane l)
    (.weighResult r.number r.outcome r.corrected r.newSpan)

/-- Hands the single contributor's Flow Computer its new span, and answers the span it stored (R169, R37). -/
def State.correctSpan (s : State) (l : Lane) (w : Window) (alpha : Nat) : State × Option (Spout × Nat) :=
  let sp := l.spout w.contributor
  let span := (s.fc.get sp).span
  let diff := (w.nb.getD 0) - w.nm
  let s := s.updFc sp fun f => f.setSpan (span + spanStep span diff alpha w.nm)
  (s, some (sp, (s.fc.get sp).span))

/-! ## Releases and the next window (R164, R170) -/

/-- Releases the spouts of a set of claims, in spout order (R164). -/
def State.releaseClaims (s : State) (l : Lane) (claims : PerSide Bool) : State :=
  let s := if claims.lower then s.releaseClaim (l.spout .lower) else s
  if claims.upper then s.releaseClaim (l.spout .upper) else s

/-- A TARING window enters OPEN, with its tare or without one, and releases its claims (R164). -/
def State.openWindow (s : State) (l : Lane) (tare : Option Nat) : State :=
  let claims := (s.lwu.get l).window.claims
  let s := s.moveWindow l fun w =>
    { w with state := .opened, tare := tare, timer := none, claims := ⟨false, false⟩ }
  s.releaseClaims l claims

/-- What follows a close, in the same step: a new window that shares the gross as its tare, a new window in TARING, or
CLOSED (R170). -/
def State.nextWindow (s : State) (l : Lane) : State :=
  let u := s.lwu.get l
  if u.window.noClaims then
    s.moveWindow l fun w => { w with state := .closed, timer := none }
  else
    match u.window.gross with
    | some g =>
      let s := s.moveWindow l fun w =>
        { w.created u.line with
          state := .opened
          tare := some g
          timer := none
          claims := ⟨false, false⟩ }
      s.releaseClaims l u.window.claims
    | none =>
      s.moveWindow l fun w =>
        { w.created u.line with
          state := .taring
          timer := some ⟨.tare, s.now + u.params.tareTimeout * 1000⟩ }

/-- The closing step of a WEIGHING window, with its gross or without one (R167 to R170). -/
def State.closeWindow (s : State) (l : Lane) (gross : Option Nat) : State :=
  let s := s.updWindow l fun w => { w with gross := gross, timer := none }
  let u := s.lwu.get l
  let o := u.window.outcome u.params
  let (s, corrected) :=
    if o = .corrected then s.correctSpan l u.window u.params.alpha else (s, none)
  (s.reportResult l (u.window.result o corrected)).nextWindow l

/-- A stable reading, used by the window state that is current when its frame is taken (R160, R164, R167). -/
def State.stableReading (s : State) (l : Lane) (gross : Nat) : State :=
  match (s.lwu.get l).window.state with
  | .closed => s
  | .taring => s.openWindow l (some gross)
  | .opened => s
  | .weighing => s.closeWindow l (some gross)

/-! ## The line (R156 to R160) -/

/-- A weighbridge header candidate: the three most significant bits are 110 (R155). -/
def bridgeCandidate (b : Byte) : Bool := b.extractLsb' 5 3 == 6#3

/-- The reading of a frame (R155). -/
def bridgeReading (bytes : List Byte) : BridgeReading :=
  { gross := (tripleAt 1 bytes).toNat, motion := (byteAt 0 bytes).getLsbD 4,
    overload := (byteAt 0 bytes).getLsbD 3 }

/-- Whether a reading is still: MOTION and OVERLOAD both clear (R160). -/
def BridgeReading.still (r : BridgeReading) : Bool := !r.motion && !r.overload

/-- A good frame in LOST: one step of the restore run, and the third restores the line (R159). -/
def State.bridgeRestore (s : State) (l : Lane) : State :=
  let u := s.lwu.get l
  if u.line = .live then s
  else if Config.restoreFrames ≤ u.restoreRun + 1 then
    let s := s.updLwu l fun u => { u with line := .live, restoreRun := 0, firstAcq := true }
    if u.firstAcq then s.pushEvent (.lane l) (.weighbridgeRestored u.badCheck) else s
  else s.updLwu l fun u => { u with restoreRun := u.restoreRun + 1 }

/-- A good weighbridge frame: loss timer, restore run, last gross, stability count, stable reading (R158 to R160). -/
def State.bridgeGood (s : State) (l : Lane) (bytes : List Byte) : State :=
  let r := bridgeReading bytes
  let s := s.updLwu l fun u =>
    { u with framing := .hunt, lossTimer := some (s.now + Config.bridgeLoss) }
  let s := s.bridgeRestore l
  let s := s.updLwu l fun u =>
    { u with
      lastGross := some r
      stability := if r.still then satAdd 255 u.stability 1 else 0 }
  let u := s.lwu.get l
  if r.still && decide (u.params.nStable ≤ u.stability) && decide (u.line = .live) then
    s.stableReading l r.gross
  else s

/-- A rejected frame: counted, the stability count 0, the restore run broken in LOST, and the bytes after the header
re-examined (R157, R159). -/
def Lwu.reject (u : Lwu) (bytes : List Byte) (gap : Nat) : Lwu :=
  { u with
    badCheck := satAdd Config.countMax u.badCheck 1
    stability := 0
    restoreRun := if u.line = .lost then 0 else u.restoreRun
    framing := reexamine bridgeCandidate gap bytes.tail }

/-- A byte arrival (R156). -/
def State.bridgeByte (s : State) (l : Lane) (b : Byte) : State :=
  match (s.lwu.get l).framing with
  | .hunt =>
    if bridgeCandidate b then
      s.updLwu l fun u => { u with framing := .collect [b] (s.now + Config.bridgeGap) }
    else s
  | .collect bytes _ =>
    let bytes := bytes ++ [b]
    if bytes.length < 5 then
      s.updLwu l fun u => { u with framing := .collect bytes (s.now + Config.bridgeGap) }
    else if xorBytes (bytes.take 4) = byteAt 4 bytes then s.bridgeGood l bytes
    else s.updLwu l fun u => u.reject bytes (s.now + Config.bridgeGap)

/-- A frame abandoned in COLLECT (R157). -/
def State.abandonBridge (s : State) (l : Lane) : State :=
  match (s.lwu.get l).framing with
  | .hunt => s
  | .collect bytes _ => s.updLwu l fun u => u.reject bytes (s.now + Config.bridgeGap)

/-- The loss timer's expiry in LIVE (R158). -/
def State.bridgeLost (s : State) (l : Lane) : State :=
  let s := s.updLwu l fun u =>
    { u with
      line := .lost
      stability := 0
      restoreRun := 0
      window :=
        if u.window.state = .closed then u.window else { u.window with bridgeLost := true } }
  s.pushEvent (.lane l) (.weighbridgeLost (s.lwu.get l).badCheck)

/-! ## The commands -/

/-- WEIGHBRIDGE_BYTE_ARRIVAL (R156). -/
def execWeighbridgeByteArrival (l : Lane) (byte : Byte) (s : State) : Host.Outcome State Fault Refusal :=
  .next <| s.whenRunning fun s => (s.bridgeByte l byte).testGrant

/-- WEIGHBRIDGE_CHARACTER_ERROR: in COLLECT the frame is rejected, in HUNT nothing changes (R156, R157). -/
def execWeighbridgeCharacterError (l : Lane) (s : State) : Host.Outcome State Fault Refusal :=
  .next <| s.whenRunning fun s => s.abandonBridge l

/-- WEIGHBRIDGE_GAP_EXPIRY (R157). -/
def execWeighbridgeGapExpiry (l : Lane) (s : State) : Host.Outcome State Fault Refusal :=
  .next <| s.whenRunning fun s =>
    match (s.lwu.get l).framing with
    | .hunt => s
    | .collect _ gap => (s.reach gap).abandonBridge l

/-- LOSS_TIMER_EXPIRY: the timer restarts at 1,000 ms; in LIVE the line goes LOST, in LOST the restore run is broken
(R158, R159). -/
def execLossTimerExpiry (l : Lane) (s : State) : Host.Outcome State Fault Refusal :=
  .next <| s.whenRunning fun s =>
    match (s.lwu.get l).lossTimer with
    | none => s
    | some t =>
      let s := s.reach t
      let s := s.updLwu l fun u => { u with lossTimer := some (s.now + Config.bridgeLoss) }
      match (s.lwu.get l).line with
      | .live => s.bridgeLost l
      | .lost => s.updLwu l fun u => { u with restoreRun := 0 }

/-- TARE_TIMER_EXPIRY: the window opens without a tare (R164). -/
def execTareTimerExpiry (l : Lane) (s : State) : Host.Outcome State Fault Refusal :=
  .next <| s.whenRunning fun s =>
    match (s.lwu.get l).window.timer with
    | some ⟨.tare, t⟩ => ((s.reach t).openWindow l none).testGrant
    | _ => s

/-- GROSS_TIMER_EXPIRY: the window closes without a gross (R167). -/
def execGrossTimerExpiry (l : Lane) (s : State) : Host.Outcome State Fault Refusal :=
  .next <| s.whenRunning fun s =>
    match (s.lwu.get l).window.timer with
    | some ⟨.gross, t⟩ => ((s.reach t).closeWindow l none).testGrant
    | _ => s

end Sys2Proof.Machine
end

