-- ==== Sys2Proof/Machine/Restart.lean ====
section
/-! DEFINITION. The warm restart, block by block (R40, R48, R49, R54, R59, R80, R106, R138, R153, R174, R185, R190,
R196). -/

namespace Sys2Proof.Machine

/-- The station address that five straps give: a value of 0 is taken as 1 (R175). -/
def strapAddress (straps : BitVec 5) : Nat := if straps = 0 then 1 else straps.toNat

/-- The Station Link after a restart: LISTEN and IDLE, the four counts 0, the straps latched anew, the turnaround kept
(R185). -/
def Sl.restarted (l : Sl) (address : BitVec 5) (rate : BitVec 2) : Sl :=
  { l with
    rx := .listen, tx := .idle, broken := 0, lengthErr := 0, crcErr := 0, dropped := 0,
    address := strapAddress address, rate := rate.toNat }

/-- The end of a spout's load by a warm restart, without a settle; an IDLE spout stays as it was (R80, R106). -/
def State.restartSpout (s : State) (sp : Spout) : State :=
  if (s.sc.get sp).state.isActive then
    let s := s.updSc sp fun c =>
      { c with
        stage := none, deadline := none, cause := none, grantHeld := false,
        reasons := c.reasons.add .restart }
    (s.endOrder sp (.abort (s.sc.get sp).reasons)).setSpoutState sp .idle
  else s

/-- A window that is not CLOSED ends ABANDONED with the figures gathered so far (R174). -/
def State.abandonWindow (s : State) (l : Lane) : State :=
  if (s.lwu.get l).window.state = .closed then s
  else
    let s := s.updWindow l fun w => { w with timer := none, claims := ⟨false, false⟩ }
    (s.reportResult l ((s.lwu.get l).window.result .abandoned none)).moveWindow l fun w =>
      { w with state := .closed }

/-- The warm restart (R196): the millisecond time and the Station Link begin anew (R185), RESTARTED is the first event
(R190), the fixed outputs go off (R49), the arbiter's holders and list are emptied without a grant (R153), every load ends
in spout order (R106), and every window is abandoned in lane order (R174). -/
def State.warmRestart (s : State) (cause : ResetCause) : State :=
  let s := { s with msBase := s.now }
  let s := s.updSl fun l => l.restarted s.rst.strapAddress s.rst.strapRate
  let s := s.pushEvent .station (.restarted true cause)
  let s := Spout.all.foldl (fun s sp => s.outputsOff sp) s
  let s := s.updFa fun f => { f with holders := .fill false, requests := [] }
  let s := Spout.all.foldl (fun s sp => s.restartSpout sp) s
  Lane.all.foldl (fun s l => s.abandonWindow l) s

end Sys2Proof.Machine
end

