-- ==== Sys2Proof/Machine/Link.lean ====
section
/-! DEFINITION. How a request reaches its block and how its reply waits, goes out or is dropped (R179 to R181). -/

namespace Sys2Proof.Machine

/-- The warm restart that a RESTART request asks for, once its OK reply has been sent or dropped (R181, R196). -/
def State.replyGone (s : State) (p : PendingReply) : State :=
  if p.kind = 0x13 ∧ p.reply.status = .ok then s.warmRestart .restartRequest else s

/-- A pending reply dropped by a start byte: discarded, counted, IDLE; a RESTART is made then (R181). -/
def State.dropReply (s : State) (p : PendingReply) : State :=
  (s.updSl fun l =>
    { l with tx := .idle, dropped := satAdd Config.countMax l.dropped 1 }).replyGone p

/-- A reply becomes the pending reply, and the turnaround timer starts (R180). -/
def State.answer (s : State) (kind : Byte) (turnaround : Nat) (r : Reply) : State :=
  s.updSl fun l => { l with rx := .listen, tx := .waiting ⟨kind, r⟩ (s.now + turnaround) }

/-- A request taken whole: its block's step, and its reply timed with the turnaround in force before it (R179, R180,
R184). -/
def State.take (s : State) (kind : Byte) (f : State → State × Reply) : State :=
  (f s).1.answer kind s.sl.turnaround (f s).2

/-- A request command: a complete frame that carries the request. While a reply waits, the frame's start byte has dropped
it (R181). While a reply is being sent, the receiver is disabled and the request is not received (R175). While a reset is
held no request is taken (R195). -/
def State.request (s : State) (kind : Byte) (f : State → State × Reply) : State :=
  s.whenRunning fun s =>
    match s.sl.tx with
    | .idle => s.take kind f
    | .waiting p _ => (s.dropReply p).take kind f
    | .sending _ _ => s

end Sys2Proof.Machine
end

