-- ==== Sys2Proof/Machine/Flags.lean ====
section
/-! DEFINITION. The codes, flag bytes and bit sets of replies and event records, and the layout of an event record
(R182, R191). -/

namespace Sys2Proof.Machine

/-! ## Bit sets -/

/-- A set as a number: the first item is bit 0 (R191). -/
def bitSet (bits : List Bool) : Nat := bits.foldr (fun b acc => b.toNat + 2 * acc) 0

/-- A set of at most eight items as a byte. -/
def setByte (bits : List Bool) : Byte := BitVec.ofNat 8 (bitSet bits)

/-- One byte of a value that fits in it. -/
def byteOf (v : Nat) : Byte := BitVec.ofNat 8 v

/-- An on/off value as a byte. -/
def boolByte (b : Bool) : Byte := byteOf b.toNat

/-- What an absent slot or spout reference is sent as (R186). -/
def absentByte : Byte := 0xFF

def ReasonSet.bits (t : ReasonSet) : List Bool :=
  [t.hostStop, t.hostWithdraw, t.spoutLifted, t.vehicleLeft, t.levelProbe, t.gateFault, t.gateLeak,
    t.sensorLost, t.feedTimeout, t.suspendTimeout, t.restart]

def LockoutSet.bits (t : LockoutSet) : List Bool :=
  [t.spoutLifted, t.vehicleLeft, t.gateFault, t.gateLeak, t.sensorLost]

/-- The two bytes of an abort reason set (R191). -/
def ReasonSet.bytes (t : ReasonSet) : List Byte := beBytes 2 (bitSet t.bits)

/-- The byte of a lockout set (R191). -/
def LockoutSet.byte (t : LockoutSet) : Byte := setByte t.bits

/-- The byte of a spout set (R191). -/
def spoutSetByte (t : PerSpout Bool) : Byte := setByte t.toList

def SampleMarks.byte (m : SampleMarks) : Byte := setByte [m.substituted, m.overrange, m.suspended]

/-- The two bytes of an attention mask (R188). -/
def CategoryMask.bits (m : CategoryMask) : List Bool :=
  [m.input, m.order, m.lockout, m.sensor, m.zero, m.feed, m.weigh, m.store, m.restart]

/-! ## Codes (R182, R191) -/

def spoutCode : Spout → Byte
  | .a => 0
  | .b => 1
  | .c => 2
  | .d => 3

def laneCode : Lane → Byte
  | .l1 => 1
  | .l2 => 2

def slotCode (i : Fin 16) : Byte := byteOf i

def SpoutState.code : SpoutState → Byte
  | .idle => 0
  | .tare => 1
  | .waitFeed => 2
  | .aerate => 3
  | .coarse => 4
  | .fine => 5
  | .settle => 6
  | .suspended => 7
  | .aborting => 8

def spoutInputCode : SpoutInput → Byte
  | .spoutDown => 0
  | .vehicle => 1
  | .level => 2
  | .coarseClosed => 3
  | .fineClosed => 4

def inputCode : InputId → Byte
  | .spout _ k => spoutInputCode k
  | .feedHold => 5
  | .airOk => 6

def Level.code : Level → Byte
  | .inactive => 0
  | .active => 1
  | .unsettled => 2

/-- The input byte: the filtered level and, in bit 7, the change latch (R191). -/
def Input.byte (v : Input) : Byte := v.filtered.code ||| (if v.latch then 0x80 else 0)

def SlotState.code : SlotState → Byte
  | .free => 0
  | .queued => 1
  | .active => 2
  | .done => 3
  | .aborted => 4

def FillClass.code : FillClass → Byte
  | .inTol => 1
  | .overfill => 2
  | .underfill => 3

def StageName.code : StageName → Byte
  | .prime => 1
  | .feedWait => 2
  | .settle => 3
  | .suspend => 4

def SuspendCause.code : SuspendCause → Byte
  | .feedHold => 1
  | .airFault => 2

def GateState.code : GateState → Byte
  | .closed => 0
  | .opening => 1
  | .opened => 2
  | .closing => 3
  | .unproven => 4

def FeedCond.code : FeedCond → Byte
  | .unknown => 0
  | .normal => 1
  | .hold => 2
  | .airFault => 3
  | .holdAirFault => 4

def WindowState.code : WindowState → Byte
  | .closed => 0
  | .taring => 1
  | .opened => 2
  | .weighing => 3

def LaneTimerName.code : LaneTimerName → Byte
  | .tare => 1
  | .gross => 2

def WeighOutcome.code : WeighOutcome → Byte
  | .nothingLoaded => 1
  | .noTare => 2
  | .noGross => 3
  | .weighbridgeLost => 4
  | .mixed => 5
  | .belowMinimum => 6
  | .degraded => 7
  | .outOfBand => 8
  | .claimPending => 9
  | .corrected => 10
  | .abandoned => 11

def SourceKind.code : SourceKind → Byte
  | .manual => 0
  | .spoutActive => 1
  | .spoutFlowing => 2
  | .spoutLockout => 3
  | .resultWaiting => 4
  | .laneWeighing => 5
  | .feedHeld => 6

/-- The lockout bit number of a reason (R191). -/
def LockoutReason.code : LockoutReason → Byte
  | .spoutLifted => 0
  | .vehicleLeft => 1
  | .gateFault => 2
  | .gateLeak => 3
  | .sensorLost => 4

def ResetCause.code : ResetCause → Byte
  | .powerUp => 0
  | .resetTerminal => 1
  | .restartRequest => 2
  | .warmTerminal => 3

/-- The status codes (R182). -/
def Status.code : Status → Byte
  | .ok => 0x00
  | .okClamped => 0x01
  | .badLength => 0x10
  | .badField => 0x11
  | .unknownKind => 0x12
  | .busy => 0x20
  | .notIdle => 0x21
  | .noOrder => 0x22
  | .queueFull => 0x23
  | .tableFull => 0x24
  | .productMismatch => 0x25
  | .lockedOut => 0x30
  | .permissive => 0x31
  | .sensorLost => 0x32
  | .staleView => 0x33
  | .notActive => 0x40
  | .notEnded => 0x41
  | .noSuchSlot => 0x42
  | .conditionPresent => 0x43

def EventSource.code : EventSource → Byte
  | .spout sp => spoutCode sp
  | .lane .l1 => 0x41
  | .lane .l2 => 0x42
  | .station => 0xFF

/-! ## Event records (R191) -/

def EventBody.code : EventBody → Byte
  | .inputChange .. => 0x01
  | .orderDone .. => 0x02
  | .orderAborted .. => 0x03
  | .lockoutSet .. => 0x04
  | .sensorLost .. => 0x05
  | .sensorRestored .. => 0x06
  | .weighbridgeLost .. => 0x07
  | .weighbridgeRestored .. => 0x08
  | .zeroCaptured .. => 0x09
  | .zeroDrift .. => 0x0A
  | .feedState .. => 0x0B
  | .weighResult .. => 0x0C
  | .storeDone => 0x0D
  | .storeFailed => 0x0E
  | .storeDefaults => 0x0F
  | .restarted .. => 0x10

/-- The listed body bytes of an event (R191). -/
def EventBody.bytes : EventBody → List Byte
  | .inputChange i level => [inputCode i, level.code]
  | .orderDone slot cls mass learned marks =>
    [slotCode slot, cls.code] ++ beBytes 4 mass ++ [boolByte learned, marks.byte]
  | .orderAborted slot reasons mass marks =>
    [slotCode slot] ++ reasons.bytes ++ beBytes 4 mass ++ [marks.byte]
  | .lockoutSet reason set state => [reason.code, set.byte, state.code]
  | .sensorLost bad sub => beBytes 2 bad ++ beBytes 2 sub
  | .sensorRestored bad sub => beBytes 2 bad ++ beBytes 2 sub
  | .weighbridgeLost bad => beBytes 2 bad
  | .weighbridgeRestored bad => beBytes 2 bad
  | .zeroCaptured previous candidate averaged =>
    beBytes 2 previous ++ beBytes 2 candidate ++ [byteOf averaged]
  | .zeroDrift previous candidate averaged =>
    beBytes 2 previous ++ beBytes 2 candidate ++ [byteOf averaged]
  | .feedState previous new holders waiting ack =>
    [previous.code, new.code, byteOf holders, byteOf waiting, boolByte ack]
  | .weighResult number outcome corrected span =>
    beBytes 2 number ++ [outcome.code, (corrected.map spoutCode).getD absentByte] ++
      beBytes 4 (span.getD 0)
  | .storeDone => []
  | .storeFailed => []
  | .storeDefaults => []
  | .restarted warm cause => [boolByte warm, cause.code]

/-- Pads a body with zeros to n bytes (R191: body bytes not listed are 0). -/
def padTo (n : Nat) (bytes : List Byte) : List Byte := bytes ++ List.replicate (n - bytes.length) 0

/-- The 14 bytes of an event record (R191). -/
def Event.bytes (e : Event) : List Byte :=
  [e.body.code, e.source.code] ++ beBytes 4 e.time ++ padTo 8 e.body.bytes

end Sys2Proof.Machine
end

