-- ==== Sys2Proof/Machine/Operands.lean ====
section
/-! DEFINITION. What the fields of a request name and how the configuration requests store them (R57, R179, R183),
and the shapes of replies (R182). -/

namespace Sys2Proof.Machine

/-! ## Identity fields (R179) -/

/-- The spout that a code names: 0 to 3 for A to D (R179). -/
def spoutOfCode (b : Byte) : Option Spout :=
  match b.toNat with
  | 0 => some .a
  | 1 => some .b
  | 2 => some .c
  | 3 => some .d
  | _ => none

/-- The lane that a code names: 1 or 2 (R179). -/
def laneOfCode (b : Byte) : Option Lane :=
  match b.toNat with
  | 1 => some .l1
  | 2 => some .l2
  | _ => none

/-- The slot that a number names: 0 to 15 (R76, R77). -/
def slotOfCode (b : Byte) : Option (Fin 16) := if h : b.toNat < 16 then some ⟨b.toNat, h⟩ else none

/-! ## Replies (R182) -/

def Reply.ok (contents : List Byte) : Reply := ⟨.ok, contents⟩

/-- OK, or OK with CLAMPED when a field was stored other than as sent (R183). -/
def Reply.stored (clamped : Bool) (contents : List Byte) : Reply :=
  ⟨if clamped then .okClamped else .ok, contents⟩

/-- A refusal without detail. -/
def Reply.refuse (st : Status) : Reply := ⟨st, []⟩

/-- BAD_FIELD with the number of the failing field (R182). -/
def Reply.badField (n : Nat) : Reply := ⟨.badField, [byteOf n]⟩

/-- BAD_LENGTH with the expected body size (R182). -/
def Reply.badLength (n : Nat) : Reply := ⟨.badLength, [byteOf n]⟩

/-- A request that names a spout: a bad code is refused BAD_FIELD naming field 1, and nothing changes (R179). -/
def withSpout (b : Byte) (s : State) (f : Spout → State × Reply) : State × Reply :=
  match spoutOfCode b with
  | none => (s, .badField 1)
  | some sp => f sp

/-- A request that names a lane: a bad code is refused BAD_FIELD naming field 1, and nothing changes (R162, R172). -/
def withLane (b : Byte) (s : State) (f : Lane → State × Reply) : State × Reply :=
  match laneOfCode b with
  | none => (s, .badField 1)
  | some l => f l

/-! ## Stored fields (R183) -/

/-- An on/off field is off for 0 and on for any other value (R183). -/
def onOff (b : Byte) : Bool := decide (b ≠ 0)

/-- The source that a code names; one that names none is stored as MANUAL (R57). -/
def storeSource (b : Byte) : SourceKind :=
  match b.toNat with
  | 1 => .spoutActive
  | 2 => .spoutFlowing
  | 3 => .spoutLockout
  | 4 => .resultWaiting
  | 5 => .laneWeighing
  | 6 => .feedHeld
  | _ => .manual

/-- The argument as stored: out of range it is spout D or lane 2, and for MANUAL and FEED_HELD it is as sent (R57). -/
def storeArg (k : SourceKind) (arg : Byte) : Byte :=
  match k with
  | .manual => arg
  | .feedHeld => arg
  | .laneWeighing => if arg.toNat = 1 then 1 else 2
  | _ => if arg.toNat < 4 then arg else 3

/-- A source, its argument and its invert flag as stored (R57, R183). -/
def storeOutput (f : OutputField) : OutputCfg :=
  let k := storeSource f.source
  ⟨k, storeArg k f.arg, onOff f.invert⟩

/-- A stored source as the bytes of its request fields (R183 item 6). -/
def outputFieldOf (c : OutputCfg) : OutputField := ⟨c.source.code, c.arg, boolByte c.invert⟩

/-- A field of an OutputField that raises CLAMPED: the source or the argument, not the invert flag (R57, R183). -/
def outputClamped (f : OutputField) : Bool :=
  let g := outputFieldOf (storeOutput f)
  g.source != f.source || g.arg != f.arg

/-- The numeric fields of CONFIG-SPOUT as stored: each clamped to its range, and a settle max below the settle time
raised to it (R10, R21, R51, R66, R84, R107, R130, R183). -/
def storeSpoutParams (f : SpoutFields) : SpoutParams :=
  let settle := clampNat 500 20000 f.settle.toNat
  { product := clampNat 1 15 f.product.toNat
    w := clampNat 1 16 f.w.toNat
    zeroBand := clampNat 0 4000 f.zeroBand.toNat
    zeroTrack := clampNat 1000 60000 f.zeroTrack.toNat
    prime := clampNat 0 10000 f.prime.toNat
    dribble := clampNat 0 2000000 f.dribble.toNat
    flight := clampNat 0 5000 f.flight.toNat
    settle := settle
    settleMax := clampNat settle 60000 f.settleMax.toNat
    leak := clampNat 0 20000 f.leak.toNat
    gateTravel := clampNat 100 5000 f.gateTravel.toNat
    gp := clampNat 0 8 f.gp.toNat
    lmax := clampNat 0 200000 f.lmax.toNat
    adaptBand := clampNat 0 500000 f.adaptBand.toNat
    overTol := clampNat 0 1000000 f.overTol.toNat
    underTol := clampNat 0 1000000 f.underTol.toNat
    subLimit := clampNat 2 100 f.subLimit.toNat
    feedWait := clampNat 1 1800 f.feedWait.toNat
    suspend := clampNat 10 1800 f.suspend.toNat }

/-- Stored spout parameters as the fields of a CONFIG-SPOUT body (R183 item 6). -/
def spoutFieldsOf (code : Byte) (p : SpoutParams) (beacon : OutputCfg) : SpoutFields :=
  { spout := code, product := byteOf p.product, w := byteOf p.w, zeroBand := .ofNat 16 p.zeroBand,
    zeroTrack := .ofNat 16 p.zeroTrack, prime := .ofNat 16 p.prime, dribble := .ofNat 32 p.dribble,
    flight := .ofNat 16 p.flight, settle := .ofNat 16 p.settle, settleMax := .ofNat 16 p.settleMax,
    leak := .ofNat 16 p.leak, gateTravel := .ofNat 16 p.gateTravel, gp := byteOf p.gp,
    lmax := .ofNat 32 p.lmax, adaptBand := .ofNat 32 p.adaptBand, overTol := .ofNat 32 p.overTol,
    underTol := .ofNat 32 p.underTol, subLimit := byteOf p.subLimit, feedWait := .ofNat 16 p.feedWait,
    suspend := .ofNat 16 p.suspend, beacon := outputFieldOf beacon }

/-- Whether a CONFIG-SPOUT field was stored other than as sent; the invert flag does not count (R183). -/
def spoutClamped (sent stored : SpoutFields) : Bool :=
  let sent := { sent with beacon := { sent.beacon with invert := stored.beacon.invert } }
  decide (stored ≠ sent)

/-- The lane parameters as stored (R162, R183). -/
def storeLaneParams (f : LaneFields) : LaneParams :=
  { enable := onOff f.enable
    nStable := clampNat 1 50 f.nStable.toNat
    tareTimeout := clampNat 1 120 f.tareTimeout.toNat
    grossTimeout := clampNat 1 120 f.grossTimeout.toNat
    acceptBand := clampNat 1 100 f.acceptBand.toNat
    alpha := clampNat 0 4 f.alpha.toNat
    nMin := clampNat 500000 80000000 f.nMin.toNat }

/-- Stored lane parameters as the fields of a CONFIG-LANE body (R183 item 6). -/
def laneFieldsOf (code : Byte) (p : LaneParams) : LaneFields :=
  { lane := code, enable := boolByte p.enable, nStable := byteOf p.nStable,
    tareTimeout := byteOf p.tareTimeout, grossTimeout := byteOf p.grossTimeout,
    acceptBand := byteOf p.acceptBand, alpha := byteOf p.alpha, nMin := .ofNat 32 p.nMin }

/-- Whether a CONFIG-LANE field was stored other than as sent; the reconcile enable does not count (R183). -/
def laneClamped (sent stored : LaneFields) : Bool :=
  decide (stored ≠ { sent with enable := stored.enable })

/-- The attention mask that two bytes give; a bit that names no category is stored as 0 (R183, R188). -/
def storeMask (v : BitVec 16) : CategoryMask :=
  { input := v.getLsbD 0, order := v.getLsbD 1, lockout := v.getLsbD 2, sensor := v.getLsbD 3,
    zero := v.getLsbD 4, feed := v.getLsbD 5, weigh := v.getLsbD 6, store := v.getLsbD 7,
    restart := v.getLsbD 8 }

/-- The bit of an input in the report enables (R191). -/
def enableBit : InputId → Nat
  | .spout sp k => 5 * (spoutCode sp).toNat + (spoutInputCode k).toNat
  | .feedHold => 20
  | .airOk => 21

/-- An optional order field: 1 present, 0 absent (R191). -/
def optValue (f : OptField) : Option Nat := if f.presence = 1 then some f.value.toNat else none

/-- An optional order field fails when its presence mark is neither present nor absent, or when it is present and above
its limit (R64). -/
def optFails (f : OptField) (limit : Nat) : Bool :=
  if f.presence = 0 then false else if f.presence = 1 then decide (limit < f.value.toNat) else true

/-- A vehicle tag fails when any of its characters lies outside 0x20 to 0x7E (R64, R74). -/
def tagFails (tag : List Byte) : Bool :=
  tag.any fun b => decide (b.toNat < 0x20) || decide (0x7E < b.toNat)

end Sys2Proof.Machine
end

