-- ==== Sys2Proof/Machine/Store.lean ====
section
/-! DEFINITION. The Calibration Store: the CRC, the image and the three parts of its write (R176, R192, R194). -/

namespace Sys2Proof.Machine

/-! ## The CRC (R176) -/

/-- One bit of the CRC: polynomial 0x1021, most significant bit first (R176). -/
def crcBit (crc : BitVec 16) : BitVec 16 :=
  if crc.msb then (crc <<< 1) ^^^ 0x1021 else crc <<< 1

/-- One byte of the CRC (R176). -/
def crcByte (crc : BitVec 16) (b : Byte) : BitVec 16 :=
  crcBit (crcBit (crcBit (crcBit (crcBit (crcBit (crcBit (crcBit
    (crc ^^^ (b.setWidth 16 <<< 8)))))))))

/-- The CRC-16 of a list of bytes, from 0xFFFF (R176). -/
def crc16 (bytes : List Byte) : BitVec 16 := bytes.foldl crcByte 0xFFFF

/-! ## The image (R192) -/

/-- The bytes of an output's source, argument and invert flag (R192). -/
def OutputCfg.bytes (c : OutputCfg) : List Byte := encodeOutputField (outputFieldOf c)

/-- The report enables of a spout's inputs, in the order of their codes (R191). -/
def InputEnables.bits (t : InputEnables) : List Bool :=
  [t.spoutDown, t.vehicle, t.level, t.coarseClosed, t.fineClosed]

/-- The station items as bytes: the fields of a CONFIG-STATION body, then the manual levels (R192; log entry 16). -/
def StationItems.bytes (t : StationItems) : List Byte :=
  [byteOf t.g, byteOf t.debounce, byteOf t.turnaround] ++ beBytes 2 (bitSet t.mask.bits) ++
    beBytes 3 (bitSet (t.enables.toList.flatMap InputEnables.bits ++ [t.feedHoldEnable, t.airOkEnable])) ++
    t.aux.toList.flatMap OutputCfg.bytes ++ [setByte (t.beaconManual.toList ++ t.auxManual.toList)]

/-- The lane items as bytes: a CONFIG-LANE body without its lane (R192; log entry 16). -/
def LaneParams.imageBytes (p : LaneParams) : List Byte :=
  (encodeLaneFields (laneFieldsOf 0 p)).tail

/-- The spout items as bytes: a CONFIG-SPOUT body without its spout, then S, z and L (R192; log entry 16). -/
def SpoutItems.bytes (t : SpoutItems) : List Byte :=
  (encodeSpoutFields (spoutFieldsOf 0 t.params t.beacon)).tail ++ beBytes 4 t.span ++
    beBytes 2 t.zero ++ beIntBytes 4 t.corr

/-- The stored items in the order of R192: station, lanes 1 and 2, spouts A to D. -/
def Items.bytes (t : Items) : List Byte :=
  t.station.bytes ++ t.lanes.l1.imageBytes ++ t.lanes.l2.imageBytes ++
    t.spouts.toList.flatMap SpoutItems.bytes

/-- The check word that an image of these items carries (R192). -/
def Items.check (t : Items) : CheckWord := .word (crc16 t.bytes)

/-- The image is valid when the check word read back equals the CRC over the items read back (R192). -/
def Image.valid (m : Image) : Bool := decide (m.check = m.items.check)

/-! ## The live items (R192, R194) -/

/-- The report enables of a spout's inputs as they stand (R43, R192). -/
def SpoutInputs.enables (t : SpoutInputs) : InputEnables :=
  ⟨t.spoutDown.report, t.vehicle.report, t.level.report, t.coarseClosed.report, t.fineClosed.report⟩

/-- The stored items of a spout as they stand at their owners (R192). -/
def State.spoutItems (s : State) (sp : Spout) : SpoutItems :=
  let f := s.fc.get sp
  { params := s.params.get sp, beacon := (s.iob.beacon.get sp).cfg, span := f.span, zero := f.zero,
    corr := f.corr }

/-- Every stored item as it stands at its owner (R192, R194). -/
def State.items (s : State) : Items :=
  { station :=
      { g := s.fa.g, debounce := s.iob.debounce, turnaround := s.sl.turnaround, mask := s.rq.mask,
        enables := s.iob.inputs.map SpoutInputs.enables, feedHoldEnable := s.iob.feedHold.report,
        airOkEnable := s.iob.airOk.report, aux := s.iob.aux.map (·.cfg),
        auxManual := s.iob.aux.map (·.manual), beaconManual := s.iob.beacon.map (·.manual) }
    lanes := s.lwu.map (·.params)
    spouts := ⟨s.spoutItems .a, s.spoutItems .b, s.spoutItems .c, s.spoutItems .d⟩ }

/-! ## The write (R194) -/

def State.updCs (s : State) (f : Cs → Cs) : State := { s with cs := f s.cs }

/-- SAVE-CALIBRATION: refused BUSY while WRITING; else the copy is taken and the first part begins, which makes the check
word fail (R194). -/
def saveRequest (s : State) : State × Reply :=
  match s.cs.store with
  | .writing .. => (s, .refuse .busy)
  | .idle =>
    (s.updCs fun c =>
        { image := { c.image with check := .failing }
          store := .writing .overwriteCheck s.items (s.now + Config.storePart) },
      .ok [])

/-- A part completes and the next begins (R194). The third part's completion is STORE_WRITE_COMPLETE. -/
def State.partComplete (s : State) : State :=
  match s.cs.store with
  | .writing .overwriteCheck copy _ =>
    s.updCs fun c => { c with store := .writing .writeItems copy (s.now + Config.storePart) }
  | .writing .writeItems copy _ =>
    s.updCs fun c =>
      { image := { c.image with items := copy }
        store := .writing .writeCheck copy (s.now + Config.storePart) }
  | _ => s

/-- The event of a write's end (R194). -/
def Image.endEvent (m : Image) : EventBody := if m.valid then .storeDone else .storeFailed

/-- The third part completes: the image is read back and tested (R194). -/
def State.writeComplete (s : State) (held : Bool) : State :=
  match s.cs.store with
  | .writing .writeCheck copy _ =>
    let image : Image := ⟨copy, if held then copy.check else .failing⟩
    (s.updCs fun _ => ⟨image, .idle⟩).pushEvent .station image.endEvent
  | _ => s

/-! ## The commands -/

/-- SAVE_CALIBRATION (R194). -/
def execSaveCalibration (s : State) : Host.Outcome State Fault Refusal :=
  .next <| s.request 0x12 saveRequest

/-- STORE_PART_COMPLETE (R194). -/
def execStorePartComplete (s : State) : Host.Outcome State Fault Refusal :=
  .next <| s.whenRunning State.partComplete

/-- STORE_WRITE_COMPLETE (R194): whether the memory holds what was written, so that the image read back is valid. -/
def execStoreWriteComplete (held : Bool) (s : State) : Host.Outcome State Fault Refusal :=
  .next <| s.whenRunning fun s => s.writeComplete held

/-- STORE_PART_TIMEOUT: the memory does not finish a part within its 100 ms; the write ends and the check word is left
failing (R194). -/
def execStorePartTimeout (s : State) : Host.Outcome State Fault Refusal :=
  .next <| s.whenRunning fun s =>
    match s.cs.store with
    | .writing _ _ limit =>
      ((s.reach limit).updCs fun c =>
          { image := { c.image with check := .failing }, store := .idle }).pushEvent
        .station .storeFailed
    | .idle => s

end Sys2Proof.Machine
end

