-- ==== Sys2Proof/Machine/Resets.lean ====
section
/-! DEFINITION. The cold reset: the supervisor, the RESET and WARM terminals, the reset as it is held, and the cold start
(R18, R39, R45, R54, R59, R79, R105, R152, R173, R175, R185, R190, R193, R195, R196). -/

namespace Sys2Proof.Machine

/-! ## The cold start -/

/-- The five inputs of a spout at the end of reset: the raw levels as the terminals stand (R41, R45). -/
def SpoutInputs.cold (t : SpoutInputs) (enables : InputEnables) (expiry : Nat) : SpoutInputs :=
  { spoutDown := .cold t.spoutDown.raw enables.spoutDown expiry
    vehicle := .cold t.vehicle.raw enables.vehicle expiry
    level := .cold t.level.raw enables.level expiry
    coarseClosed := .cold t.coarseClosed.raw enables.coarseClosed expiry
    fineClosed := .cold t.fineClosed.raw enables.fineClosed expiry }

/-- The gates of a spout at the end of reset: a close command with every switch unsettled (R54). -/
def coldGates (now travel : Nat) : PerGate GateSup :=
  ⟨⟨.closing, some (now + travel)⟩, ⟨.closing, some (now + travel)⟩⟩

/-- A configurable output at the end of reset (R59). -/
def ConfigOut.cold (cfg : OutputCfg) (manual : Bool) : ConfigOut :=
  ConfigOut.recompute .cold { cfg, manual, terminal := false }

/-- The Input/Output Block at the end of reset, with HOLD_ACK and ATTENTION off until their owners hand a level over
(R41, R45, R49, R50, R54, R59). -/
def Iob.cold (b : Iob) (t : Items) (now : Nat) : Iob :=
  let d := t.station.debounce
  { debounce := d
    inputs :=
      { a := b.inputs.a.cold t.station.enables.a (now + d)
        b := b.inputs.b.cold t.station.enables.b (now + d)
        c := b.inputs.c.cold t.station.enables.c (now + d)
        d := b.inputs.d.cold t.station.enables.d (now + d) }
    feedHold := .cold b.feedHold.raw t.station.feedHoldEnable (now + d)
    airOk := .cold b.airOk.raw t.station.airOkEnable (now + d)
    coarseOut := .fill false
    fineOut := .fill false
    aeration := .fill false
    holdAck := false
    attention := false
    gates := t.spouts.map fun it => coldGates now it.params.gateTravel
    beacon :=
      { a := .cold t.spouts.a.beacon t.station.beaconManual.a
        b := .cold t.spouts.b.beacon t.station.beaconManual.b
        c := .cold t.spouts.c.beacon t.station.beaconManual.c
        d := .cold t.spouts.d.beacon t.station.beaconManual.d }
    aux :=
      { x1 := .cold t.station.aux.x1 t.station.auxManual.x1
        x2 := .cold t.station.aux.x2 t.station.auxManual.x2
        x3 := .cold t.station.aux.x3 t.station.auxManual.x3
        x4 := .cold t.station.aux.x4 t.station.auxManual.x4 }
    views := .cold }

/-- A WARM terminal as a cold reset leaves it: taken as released, no assertion counted; one that is held asserted must be
seen released first (R196). DESIGN CHOICE: so must one that is asserted at the end of the reset, whenever in the reset it was
asserted (log entry 32). -/
def Terminal.cold (t : Terminal) : Terminal :=
  { raw := t.raw, filtered := false, filter := none, assertion := none, seen := !t.raw }

/-- The items that a cold start takes: the image's when it is valid, else the defaults (R193). -/
def Cs.coldItems (c : Cs) : Items := if c.image.valid then c.image.items else Items.default

/-- Every block in its cold state with the items it takes, and an empty report queue (R195). -/
def State.coldBlocks (s : State) (t : Items) : State :=
  { now := s.now
    msBase := s.now
    rst := { s.rst with held := none, warm := s.rst.warm.cold }
    slr := .fill .cold
    fc := t.spouts.map Fc.cold
    iob := s.iob.cold t s.now
    ot := .cold
    sc := .fill .cold
    params := t.spouts.map (·.params)
    fa := .cold t.station.g
    lwu := t.lanes.map Lwu.cold
    sl :=
      { rx := .listen, tx := .idle, broken := 0, lengthErr := 0, crcErr := 0, dropped := 0,
        address := strapAddress s.rst.strapAddress, rate := s.rst.strapRate.toNat,
        turnaround := t.station.turnaround }
    rq := { events := [], lost := 0, mask := t.station.mask }
    cs := { s.cs with store := .idle }
    pending := s.pending }

/-- With a debounce time of 0, every input settles at the end of reset (R45); the order is log entry 17. -/
def State.settleAll (s : State) : State :=
  if s.iob.debounce = 0 then
    (Machine.InputId.all.foldl (fun s i => s.settleInput i) s).testGrant
  else s

/-- The part leaves a reset: every block cold, RESTARTED(cold) the first event, and STORE_DEFAULTS after it when the image
is not valid (R190, R193, R195). -/
def State.coldStart (s : State) (cause : ResetCause) : State :=
  let valid := s.cs.image.valid
  let s := s.coldBlocks s.cs.coldItems
  let s := s.pushEvent .station (.restarted false cause)
  let s := if valid then s else s.pushEvent .station .storeDefaults
  s.settleAll

/-! ## Entering and leaving a reset (R195) -/

/-- Every output terminal off (R195). -/
def Iob.off (b : Iob) : Iob :=
  { b with
    coarseOut := .fill false
    fineOut := .fill false
    aeration := .fill false
    holdAck := false
    attention := false
    beacon := b.beacon.map fun o => { o with terminal := false }
    aux := b.aux.map fun o => { o with terminal := false } }

/-- A write in progress is cut off, and the check word then fails (R194). -/
def Cs.cutOff (c : Cs) : Cs :=
  match c.store with
  | .idle => c
  | .writing .. => { image := { c.image with check := .failing }, store := .idle }

/-- A reset begins: the outputs off, a write cut off, the WARM filter at rest (R194 to R196). -/
def State.enterReset (s : State) (cause : ResetCause) : State :=
  let s := (s.updIob Iob.off).updCs Cs.cutOff
  s.updRst fun r =>
    { r with held := some cause, warm := { r.warm with filter := none, assertion := none } }

/-- The part leaves a held reset when neither the supervisor nor the filtered RESET holds it (R195). -/
def State.tryLeave (s : State) : State :=
  match s.rst.held with
  | none => s
  | some cause =>
    if s.rst.supervisorHold || s.rst.reset.filtered then s else s.coldStart cause

/-! ## The terminals' filters (R195, R196) -/

/-- The level that a terminal counts as taken: a WARM terminal not yet seen released counts as asserted (R196). -/
def Terminal.taken (t : Terminal) : Bool := t.filtered || !t.seen

/-- A change of a terminal's raw level: a level other than the one taken must hold for 1 ms (R195). -/
def Terminal.change (t : Terminal) (asserted : Bool) (now : Nat) : Terminal :=
  if t.raw = asserted then t
  else
    { t with
      raw := asserted
      filter := if asserted = t.taken then none else some (now + Config.terminalFilter) }

/-- The filter's expiry: the raw level is taken, and an assertion begins its 10 ms (R195, R196). -/
def Terminal.settle (t : Terminal) (now : Nat) : Terminal :=
  { t with
    filtered := t.raw
    filter := none
    assertion := if t.raw then some (now + Config.terminalAssert) else none
    seen := true }

def State.updReset (s : State) (f : Terminal → Terminal) : State :=
  s.updRst fun r => { r with reset := f r.reset }

def State.updWarm (s : State) (f : Terminal → Terminal) : State :=
  s.updRst fun r => { r with warm := f r.warm }

/-! ## The commands -/

/-- SUPPLY_FALL: the supervisor enters reset, and holds it until 50 ms after the supply rises again (R195; log entry 31).
A supply already below the trip level does not fall. -/
def execSupplyFall (s : State) : Host.Outcome State Fault Refusal :=
  .next <|
    if s.rst.supplyOk then
      (s.updRst fun r => { r with supplyOk := false, supervisorHold := true, stable := none }).enterReset
        .powerUp
    else s

/-- SUPPLY_RISE: the 50 ms above the trip level begin (R195). DESIGN CHOICE: they run after every rise, after a supply fall in
operation as from power-on (log entry 31). -/
def execSupplyRise (s : State) : Host.Outcome State Fault Refusal :=
  .next <|
    if s.rst.supplyOk then s
    else
      s.updRst fun r => { r with supplyOk := true, stable := some (s.now + Config.supplyStable) }

/-- SUPPLY_STABLE_EXPIRY: the supervisor's hold ends (R195). -/
def execSupplyStableExpiry (s : State) : Host.Outcome State Fault Refusal :=
  .next <|
    match s.rst.stable with
    | none => s
    | some t =>
      ((s.reach t).updRst fun r => { r with supervisorHold := false, stable := none }).tryLeave

/-- RESET_TERMINAL_CHANGE (R195). -/
def execResetTerminalChange (asserted : Bool) (s : State) : Host.Outcome State Fault Refusal :=
  .next <| s.updReset fun t => t.change asserted s.now

/-- RESET_FILTER_EXPIRY (R195): a release taken ends the terminal's hold on the reset. -/
def execResetFilterExpiry (s : State) : Host.Outcome State Fault Refusal :=
  .next <|
    match s.rst.reset.filter with
    | none => s
    | some t =>
      let s := s.reach t
      (s.updReset fun r => r.settle s.now).tryLeave

/-- RESET_ASSERT_EXPIRY: the filtered assertion has lasted 10 ms and enters reset, unless one is held already (R195). -/
def execResetAssertExpiry (s : State) : Host.Outcome State Fault Refusal :=
  .next <|
    match s.rst.reset.assertion with
    | none => s
    | some t =>
      let s := (s.reach t).updReset fun r => { r with assertion := none }
      if s.rst.held.isSome then s else s.enterReset .resetTerminal

/-- WARM_TERMINAL_CHANGE (R196). While a reset is held only the raw level is kept. -/
def execWarmTerminalChange (asserted : Bool) (s : State) : Host.Outcome State Fault Refusal :=
  .next <|
    if s.rst.held.isSome then s.updWarm fun t => { t with raw := asserted }
    else s.updWarm fun t => t.change asserted s.now

/-- WARM_FILTER_EXPIRY (R196). -/
def execWarmFilterExpiry (s : State) : Host.Outcome State Fault Refusal :=
  .next <| s.whenRunning fun s =>
    match s.rst.warm.filter with
    | none => s
    | some t =>
      let s := s.reach t
      s.updWarm fun r => r.settle s.now

/-- WARM_ASSERT_EXPIRY: the filtered assertion has lasted 10 ms and makes one warm restart (R196). -/
def execWarmAssertExpiry (s : State) : Host.Outcome State Fault Refusal :=
  .next <| s.whenRunning fun s =>
    match s.rst.warm.assertion with
    | none => s
    | some t =>
      ((s.reach t).updWarm fun r => { r with assertion := none }).warmRestart .warmTerminal

end Sys2Proof.Machine
end

