-- ==== Sys2Proof/Machine/Configure.lean ====
section
/-! DEFINITION. The requests that configure and calibrate: CONFIG-STATION, CONFIG-LANE, CONFIG-SPOUT, SET-CALIBRATION,
ZERO and SET-OUTPUTS (R20, R21, R35, R36, R46, R57, R58, R84, R139, R162, R183, R184). -/

namespace Sys2Proof.Machine

/-! ## CONFIG-STATION (R46, R57, R139, R184) -/

/-- The fields of a CONFIG-STATION as stored (R183). -/
def storeStation (f : StationFields) : StationFields :=
  { g := byteOf (clampNat 1 4 f.g.toNat)
    debounce := byteOf (clampNat 0 250 f.debounce.toNat)
    turnaround := byteOf (clampNat 1 50 f.turnaround.toNat)
    mask := .ofNat 16 (bitSet (storeMask f.mask).bits)
    enables := f.enables &&& 0x3FFFFF
    aux := f.aux.map fun o => outputFieldOf (storeOutput o) }

/-- Whether a CONFIG-STATION field was stored other than as sent; bits that name nothing and invert flags do not count
(R183). -/
def stationClamped (f : StationFields) : Bool :=
  let t := storeStation f
  t.g != f.g || t.debounce != f.debounce || t.turnaround != f.turnaround ||
    outputClamped f.aux.x1 || outputClamped f.aux.x2 || outputClamped f.aux.x3 ||
    outputClamped f.aux.x4

/-- Sets the report enable of every input (R46). -/
def State.setReports (s : State) (enables : BitVec 24) : State :=
  Machine.InputId.all.foldl
    (fun s i => s.setInput i { s.input i with report := enables.getLsbD (enableBit i) }) s

/-- Sets an output's source and recomputes it at once from the present view (R57). -/
def ConfigOut.setCfg (v : SourceViews) (cfg : OutputCfg) (o : ConfigOut) : ConfigOut :=
  ConfigOut.recompute v { o with cfg }

/-- Sets the sources of AUX1 to AUX4 (R57). -/
def Iob.setAux (b : Iob) (aux : PerAux OutputField) : Iob :=
  { b with
    aux :=
      ⟨b.aux.x1.setCfg b.views (storeOutput aux.x1), b.aux.x2.setCfg b.views (storeOutput aux.x2),
        b.aux.x3.setCfg b.views (storeOutput aux.x3), b.aux.x4.setCfg b.views (storeOutput aux.x4)⟩ }

/-- Whether the arbiter has a holder or a waiting spout (R139). -/
def Fa.busy (f : Fa) : Bool := decide (f.holderCount ≠ 0) || decide (f.requests ≠ [])

/-- CONFIG-STATION: refused whole when it changes G while the arbiter is busy (R139). -/
def configStationRequest (f : StationFields) (s : State) : State × Reply :=
  let t := storeStation f
  if t.g.toNat ≠ s.fa.g ∧ s.fa.busy = true then (s, .refuse .busy)
  else
    let s := s.updFa fun a => { a with g := t.g.toNat }
    let s := s.updSl fun l => { l with turnaround := t.turnaround.toNat }
    let s := s.updIob fun b => { b with debounce := t.debounce.toNat }.setAux f.aux
    let s := s.setReports f.enables
    (s.updRq fun q => { q with mask := storeMask f.mask },
      .stored (stationClamped f) (encodeStationFields t))

/-! ## CONFIG-LANE (R162) -/

/-- CONFIG-LANE: refused whole when it changes the reconcile enable while the window is not CLOSED (R162). -/
def configLaneRequest (f : LaneFields) (s : State) : State × Reply :=
  withLane f.lane s fun l =>
    let u := s.lwu.get l
    let p := storeLaneParams f
    if p.enable ≠ u.params.enable ∧ u.window.state ≠ .closed then (s, .refuse .busy)
    else
      let t := laneFieldsOf (laneCode l) p
      (s.updLwu l fun u => { u with params := p }, .stored (laneClamped f t) (encodeLaneFields t))

/-! ## CONFIG-SPOUT (R17, R21, R51, R57, R66, R84, R107, R130) -/

/-- Whether a spout is IDLE with an empty queue: what CONFIG-SPOUT and SET-CALIBRATION require (R36, R84). -/
def State.atRest (s : State) (sp : Spout) : Bool :=
  decide ((s.sc.get sp).state = .idle) && decide (s.ot.queues.get sp = [])

/-- A new W shortens a longer window, and q_filt is recomputed from what remains (R21). -/
def Fc.trim (f : Fc) (w : Nat) : Fc :=
  if w < f.window.length then
    { f with window := keepLast w f.window, qFilt := roundedMean (keepLast w f.window) }
  else f

/-- CONFIG-SPOUT (R84 and the rules it names). The clamp of L by a lower Lmax is R20's. -/
def configSpoutRequest (f : SpoutFields) (s : State) : State × Reply :=
  withSpout f.spout s fun sp =>
    if s.atRest sp = false then (s, .refuse .busy)
    else
      let p := storeSpoutParams f
      let cfg := storeOutput f.beacon
      let t := spoutFieldsOf (spoutCode sp) p cfg
      let s := { s with params := s.params.set sp p }
      let s := s.updFc sp fun c => (c.trim p.w).setCorr p.lmax c.corr
      (s.updIob fun b =>
          { b with beacon := b.beacon.set sp ((b.beacon.get sp).setCfg b.views cfg) },
        .stored (spoutClamped f t) (encodeSpoutFields t))

/-! ## SET-CALIBRATION and ZERO (R35, R36) -/

/-- SET-CALIBRATION (R36). -/
def setCalibrationRequest (spout : Byte) (span : BitVec 32) (zero : BitVec 16) (corr : BitVec 32)
    (s : State) : State × Reply :=
  withSpout spout s fun sp =>
    if s.atRest sp = false then (s, .refuse .busy)
    else
      let s := s.updFc sp fun f =>
        ({ f.setSpan span.toNat with zero := zero.toNat }.setCorr (s.params.get sp).lmax
          corr.toInt).restartZero (s.zeroExpiry sp)
      let f := s.fc.get sp
      (s, .stored (decide (f.span ≠ span.toNat) || decide (f.corr ≠ corr.toInt))
        (spoutCode sp :: (beBytes 4 f.span ++ beBytes 2 f.zero ++ beIntBytes 4 f.corr)))

/-- The closed switches not made, in the order of the input set (R35, R191). -/
def State.switchFailures (s : State) (sp : Spout) : List Bool :=
  [false, false, false, decide (s.level sp .coarseClosed ≠ .active),
    decide (s.level sp .fineClosed ≠ .active)]

/-- ZERO, tested in the order of R35. -/
def zeroRequest (spout : Byte) (s : State) : State × Reply :=
  withSpout spout s fun sp =>
    if (s.sc.get sp).state ≠ .idle then (s, .refuse .notIdle)
    else if (s.fc.get sp).lineView ≠ .live then (s, .refuse .sensorLost)
    else if (s.switchFailures sp).any id then (s, ⟨.permissive, [setByte (s.switchFailures sp)]⟩)
    else
      let after := s.captureZero sp
      (after, .ok (beBytes 2 (s.fc.get sp).zero ++ beBytes 2 (after.fc.get sp).zero))

/-! ## SET-OUTPUTS (R58) -/

/-- Sets an output's manual level from its two mask bits; a MANUAL output follows in the same step (R58). -/
def ConfigOut.setManual (v : SourceViews) (set? clear? : Bool) (o : ConfigOut) : ConfigOut :=
  let o := { o with manual := set? || (o.manual && !clear?) }
  if o.cfg.source = .manual then o.recompute v else o

/-- The eight outputs in the order of their bits (R191). -/
def Iob.outputs (b : Iob) : List ConfigOut := b.beacon.toList ++ b.aux.toList

/-- The manual levels set by two masks (R58, R191). -/
def Iob.setOutputs (b : Iob) (setMask clearMask : Byte) : Iob :=
  let f := fun (n : Nat) (o : ConfigOut) =>
    o.setManual b.views (setMask.getLsbD n) (clearMask.getLsbD n)
  { b with
    beacon := ⟨f 0 b.beacon.a, f 1 b.beacon.b, f 2 b.beacon.c, f 3 b.beacon.d⟩
    aux := ⟨f 4 b.aux.x1, f 5 b.aux.x2, f 6 b.aux.x3, f 7 b.aux.x4⟩ }

/-- SET-OUTPUTS (R58). -/
def setOutputsRequest (setMask clearMask : Byte) (s : State) : State × Reply :=
  let s := s.updIob fun b => b.setOutputs setMask clearMask
  (s, .ok [setByte (s.iob.outputs.map (·.manual)), setByte (s.iob.outputs.map (·.terminal))])

/-! ## The commands -/

/-- CONFIG_STATION (R139). -/
def execConfigStation (f : StationFields) (s : State) : Host.Outcome State Fault Refusal :=
  .next <| s.request 0x02 (configStationRequest f)

/-- CONFIG_LANE (R162). -/
def execConfigLane (f : LaneFields) (s : State) : Host.Outcome State Fault Refusal :=
  .next <| s.request 0x03 (configLaneRequest f)

/-- CONFIG_SPOUT (R84). -/
def execConfigSpout (f : SpoutFields) (s : State) : Host.Outcome State Fault Refusal :=
  .next <| s.request 0x04 (configSpoutRequest f)

/-- SET_CALIBRATION (R36). -/
def execSetCalibration (spout : Byte) (span : BitVec 32) (zero : BitVec 16) (corr : BitVec 32)
    (s : State) : Host.Outcome State Fault Refusal :=
  .next <| s.request 0x06 (setCalibrationRequest spout span zero corr)

/-- ZERO (R35). -/
def execZero (spout : Byte) (s : State) : Host.Outcome State Fault Refusal :=
  .next <| s.request 0x07 (zeroRequest spout)

/-- SET_OUTPUTS (R58). -/
def execSetOutputs (setMask clearMask : Byte) (s : State) : Host.Outcome State Fault Refusal :=
  .next <| s.request 0x0F (setOutputsRequest setMask clearMask)

end Sys2Proof.Machine
end

