-- ==== Sys2Proof/Machine/Loading.lean ====
section
/-! DEFINITION. The Spout Controller's commands: START, STOP, CLEAR-LOCKOUT and the expiries of the stage timer
(R85 to R89, R93, R95, R100, R128, R134, R137). -/

namespace Sys2Proof.Machine

/-! ## START (R85 to R89) -/

/-- The permissive inputs that fail, in the order of their codes (R86). -/
def State.permissiveFailures (s : State) (sp : Spout) : List Bool :=
  [ decide (s.level sp .spoutDown ≠ .active), decide (s.level sp .vehicle ≠ .active),
    decide (s.level sp .level ≠ .inactive), decide (s.level sp .coarseClosed ≠ .active),
    decide (s.level sp .fineClosed ≠ .active) ]

/-- Whether an event is an INPUT_CHANGE whose spout field names a spout (R87). -/
def Event.inputChangeOf (sp : Spout) (e : Event) : Bool :=
  decide (e.source = .spout sp) &&
    match e.body with
    | .inputChange .. => true
    | _ => false

/-- The INPUT_CHANGE events of a spout held in the queue (R87). -/
def Rq.inputChanges (q : Rq) (sp : Spout) : Nat := (q.events.filter (Event.inputChangeOf sp)).length

/-- Entry to TARE or WAIT_FEED at acceptance (R89, R90). -/
def State.beginLoad (s : State) (sp : Spout) : State :=
  if (s.lwu.get sp.lane).params.enable then
    let (s, released) := (s.setSpoutState sp .tare).claimTare sp
    if released then s.releaseClaim sp else s
  else s.enterWaitFeed sp

/-- The accepted START's step (R88). -/
def State.acceptStart (s : State) (sp : Spout) (i : Fin 16) (rest : List (Fin 16)) : State :=
  let s := s.activate sp i rest
  let s := s.updSc sp fun c =>
    { c with active := some i, reasons := .empty, cause := none, deadline := none }
  let s := s.updFc sp fun f => { f with active := some i }
  (s.beginLoad sp).testGrant

/-- START, tested in the order of R85. -/
def startRequest (spout : Byte) (s : State) : State × Reply :=
  withSpout spout s fun sp =>
    let c := s.sc.get sp
    if c.state ≠ .idle then (s, .refuse .notIdle)
    else
      match s.ot.queues.get sp with
      | [] => (s, .refuse .noOrder)
      | i :: rest =>
        if c.lockout ≠ .empty then (s, ⟨.lockedOut, [c.lockout.byte]⟩)
        else if (s.permissiveFailures sp).any id then
          (s, ⟨.permissive, [setByte (s.permissiveFailures sp)]⟩)
        else if c.lineView ≠ .live then (s, .refuse .sensorLost)
        else if s.rq.inputChanges sp ≠ 0 ∨ s.rq.lost ≠ 0 then
          (s, ⟨.staleView, [byteOf (s.rq.inputChanges sp), byteOf s.rq.lost]⟩)
        else (s.acceptStart sp i rest, .ok [slotCode i, byteOf rest.length])

/-! ## STOP and CLEAR-LOCKOUT (R128, R137) -/

/-- STOP (R128). -/
def stopRequest (spout : Byte) (s : State) : State × Reply :=
  withSpout spout s fun sp =>
    let c := s.sc.get sp
    if c.state = .idle then (s, .refuse .notActive)
    else
      let s := (s.abortCause sp .hostStop).testGrant
      let after := s.sc.get sp
      (s, .ok ([after.state.code, (c.active.map slotCode).getD absentByte] ++ after.reasons.bytes))

/-- The conditions that stand against a CLEAR-LOCKOUT, in the order of the condition set (R137, R191). -/
def State.lockoutConditions (s : State) (sp : Spout) : List Bool :=
  let c := s.sc.get sp
  [ c.lockout.spoutLifted && decide (s.level sp .spoutDown ≠ .active),
    c.lockout.vehicleLeft && decide (s.level sp .vehicle ≠ .active),
    false,
    decide (s.level sp .coarseClosed ≠ .active),
    decide (s.level sp .fineClosed ≠ .active),
    decide (c.lineView ≠ .live) ]

/-- CLEAR-LOCKOUT: a set already empty is cleared without the condition tests (R137). -/
def clearLockoutRequest (spout : Byte) (s : State) : State × Reply :=
  withSpout spout s fun sp =>
    let c := s.sc.get sp
    if c.state ≠ .idle then (s, .refuse .notIdle)
    else if c.lockout = .empty then (s, .ok [c.lockout.byte])
    else if (s.lockoutConditions sp).any id then
      (s, ⟨.conditionPresent, [setByte (s.lockoutConditions sp)]⟩)
    else
      let s := s.updSc sp fun c => { c with lockout := .empty }
      (s.notice fun v => { v with lockout := v.lockout.set sp false }, .ok [c.lockout.byte])

/-! ## The commands -/

/-- START (R88). -/
def execStart (spout : Byte) (s : State) : Host.Outcome State Fault Refusal :=
  .next <| s.request 0x09 (startRequest spout)

/-- STOP (R128). -/
def execStop (spout : Byte) (s : State) : Host.Outcome State Fault Refusal :=
  .next <| s.request 0x0A (stopRequest spout)

/-- CLEAR_LOCKOUT (R137). -/
def execClearLockout (spout : Byte) (s : State) : Host.Outcome State Fault Refusal :=
  .next <| s.request 0x10 (clearLockoutRequest spout)

/-- The expiry of a stage timer that runs under a name in one of the states that run it (R81). -/
def State.stageExpiry (s : State) (sp : Spout) (name : StageName) (states : List SpoutState)
    (f : State → State) : State :=
  s.whenRunning fun s =>
    match (s.sc.get sp).stage with
    | some ⟨n, t⟩ =>
      if n = name ∧ (s.sc.get sp).state ∈ states then (f (s.reach t)).testGrant else s
    | none => s

/-- FEED_WAIT_EXPIRY: the request is withdrawn and FEED_TIMEOUT taken (R93). -/
def execFeedWaitExpiry (sp : Spout) (s : State) : Host.Outcome State Fault Refusal :=
  .next <| s.stageExpiry sp .feedWait [.waitFeed] fun s =>
    (s.withdrawFeed sp).abortCause sp .feedTimeout

/-- PRIME_EXPIRY: the decision between SETTLE, FINE and COARSE (R95). -/
def execPrimeExpiry (sp : Spout) (s : State) : Host.Outcome State Fault Refusal :=
  .next <| s.stageExpiry sp .prime [.aerate] fun s => (s.setStage sp none).primeDecision sp

/-- SETTLE_EXPIRY: the settle decision (R100, R125). -/
def execSettleExpiry (sp : Spout) (s : State) : Host.Outcome State Fault Refusal :=
  .next <| s.stageExpiry sp .settle [.settle, .aborting] fun s => s.settleDecision sp

/-- SUSPEND_EXPIRY: the request is withdrawn and SUSPEND_TIMEOUT taken (R134). -/
def execSuspendExpiry (sp : Spout) (s : State) : Host.Outcome State Fault Refusal :=
  .next <| s.stageExpiry sp .suspend [.suspended] fun s =>
    (s.withdrawFeed sp).abortCause sp .suspendTimeout

end Sys2Proof.Machine
end

