-- ==== Sys2Proof/Machine/OrderRequests.lean ====
section
/-! DEFINITION. The Order Table's requests (R64, R65, R74 to R77) and READ-EVENTS (R189). -/

namespace Sys2Proof.Machine

/-! ## LOAD-ORDER (R64, R65) -/

/-- The first field that fails, after the spout code: its number, counted from 1 (R64). -/
def orderFieldFailure (f : OrderFields) : Option Nat :=
  if tagFails f.tag then some 2
  else if f.compartment.toNat < 1 ∨ 8 < f.compartment.toNat then some 3
  else if f.product.toNat < 1 ∨ 15 < f.product.toNat then some 4
  else if f.target.toNat < 1000 ∨ 80000000 < f.target.toNat then some 5
  else if optFails f.overTol 1000000 then some 6
  else if optFails f.underTol 1000000 then some 7
  else if optFails f.dribble 2000000 then some 8
  else none

/-- The lowest-numbered FREE slot (R65). -/
def Ot.freeSlot (t : Ot) : Option (Fin 16) :=
  (List.finRange 16).find? fun i => decide ((t.slot i).state = .free)

/-- The record of a newly placed order: the eight order fields, every progress field cleared (R65). -/
def orderRecord (sp : Spout) (f : OrderFields) : SlotRec :=
  { SlotRec.cleared with
    state := .queued, tag := f.tag, compartment := f.compartment.toNat, spout := some sp,
    product := f.product.toNat, target := f.target.toNat, overTol := optValue f.overTol,
    underTol := optValue f.underTol, dribble := optValue f.dribble }

/-- Places an order in a slot and at the tail of the spout's queue (R65). -/
def Ot.place (t : Ot) (sp : Spout) (i : Fin 16) (r : SlotRec) : Ot :=
  { t.setSlot i r with queues := t.queues.set sp (t.queues.get sp ++ [i]) }

/-- LOAD-ORDER (R64, R65). A tag of another length than 8 is a body of another size (log entry 13). -/
def loadOrderRequest (f : OrderFields) (s : State) : State × Reply :=
  if tagWf f.tag = false then (s, .badLength 30)
  else
    withSpout f.spout s fun sp =>
      match orderFieldFailure f with
      | some n => (s, .badField n)
      | none =>
        if f.product.toNat ≠ (s.params.get sp).product then (s, .refuse .productMismatch)
        else if Config.queueDepth ≤ (s.ot.queues.get sp).length then (s, .refuse .queueFull)
        else
          match s.ot.freeSlot with
          | none => (s, .refuse .tableFull)
          | some i =>
            (s.updOt fun t => t.place sp i (orderRecord sp f),
              .ok [slotCode i, byteOf ((s.ot.queues.get sp).length + 1)])

/-! ## WITHDRAW-VEHICLE (R74, R75) -/

/-- Whether a record is a QUEUED order of a vehicle (R74). -/
def SlotRec.queuedFor (r : SlotRec) (tag : List Byte) : Bool :=
  decide (r.state = .queued) && decide (r.tag = tag)

/-- Frees the QUEUED slots of a vehicle; the entries that remain in each queue keep their order (R74). -/
def Ot.withdraw (t : Ot) (tag : List Byte) : Ot :=
  { t with
    slots := t.slots.map fun r => if r.queuedFor tag then SlotRec.cleared else r
    queues := t.queues.map fun q => q.filter fun i => !(t.slot i).queuedFor tag }

/-- How many slots a withdrawal frees (R75). -/
def Ot.withdrawCount (t : Ot) (tag : List Byte) : Nat :=
  ((List.finRange 16).filter fun i => (t.slot i).queuedFor tag).length

/-- Whether a spout's active order carries a tag (R75). -/
def State.loadsFor (s : State) (tag : List Byte) (sp : Spout) : Bool :=
  match (s.sc.get sp).active with
  | none => false
  | some i => decide ((s.ot.slot i).tag = tag)

/-- WITHDRAW-VEHICLE: the queued orders are freed, then each spout that loads for the vehicle takes HOST_WITHDRAW, in spout
order (log entry 14), in one step (R74, R75). -/
def withdrawRequest (tag : List Byte) (s : State) : State × Reply :=
  if tagWf tag = false then (s, .badLength 8)
  else if tagFails tag then (s, .badField 1)
  else
    let spouts : PerSpout Bool :=
      ⟨s.loadsFor tag .a, s.loadsFor tag .b, s.loadsFor tag .c, s.loadsFor tag .d⟩
    let freed := s.updOt fun t => t.withdraw tag
    let ended :=
      Spout.all.foldl
        (fun s sp => if spouts.get sp then s.abortCause sp .hostWithdraw else s) freed
    (ended.testGrant, .ok [byteOf (s.ot.withdrawCount tag), spoutSetByte spouts])

/-! ## RELEASE-ORDER and READ-ORDER (R76, R77) -/

/-- Whether a slot has ended (R76). -/
def SlotState.ended : SlotState → Bool
  | .done => true
  | .aborted => true
  | _ => false

/-- Makes absent the reference of the spout whose most recently ended slot is released (R71, R76). -/
def State.forgetEnded (s : State) (i : Fin 16) (sp : Spout) : State :=
  if s.ot.lastEnded.get sp = some i then
    (s.updOt fun t => { t with lastEnded := t.lastEnded.set sp none }).notice fun v =>
      { v with result := v.result.set sp false }
  else s

/-- RELEASE-ORDER (R76). -/
def releaseRequest (slot : Byte) (s : State) : State × Reply :=
  match slotOfCode slot with
  | none => (s, .refuse .noSuchSlot)
  | some i =>
    let r := s.ot.slot i
    if r.state.ended then
      let s := s.updSlot i fun _ => .cleared
      ((match r.spout with
        | none => s
        | some sp => s.forgetEnded i sp), .ok [slotCode i])
    else (s, .refuse .notEnded)

/-- The presence flags of a record (R191). -/
def SlotRec.presence (r : SlotRec) : Byte :=
  setByte [r.overTol.isSome, r.underTol.isSome, r.dribble.isSome, r.cls.isSome, r.reasons.isSome,
    r.fineCutoff.isSome, r.startTime.isSome, r.endTime.isSome]

/-- The READ-ORDER reply (R191): an absent value is sent as 0, an absent spout as 0xFF (R186). -/
def SlotRec.bytes (r : SlotRec) (i : Fin 16) : List Byte :=
  [slotCode i, r.state.code] ++ r.tag ++
    [byteOf r.compartment, (r.spout.map spoutCode).getD absentByte, byteOf r.product] ++
    beBytes 4 r.target ++ [r.presence] ++ beBytes 4 (r.overTol.getD 0) ++
    beBytes 4 (r.underTol.getD 0) ++ beBytes 4 (r.dribble.getD 0) ++ beBytes 4 r.mass ++
    [(r.cls.map FillClass.code).getD 0] ++ (r.reasons.getD .empty).bytes ++ beBytes 2 r.subCount ++
    beBytes 2 r.overCount ++ [byteOf r.suspCount] ++ beBytes 4 (r.fineCutoff.getD 0) ++
    beBytes 4 (r.startTime.getD 0) ++ beBytes 4 (r.endTime.getD 0)

/-- READ-ORDER (R77). -/
def readOrderRequest (slot : Byte) (s : State) : State × Reply :=
  match slotOfCode slot with
  | none => (s, .refuse .noSuchSlot)
  | some i => (s, .ok ((s.ot.slot i).bytes i))

/-! ## READ-EVENTS (R189) -/

/-- READ-EVENTS (R189). -/
def readEventsRequest (n : Byte) (s : State) : State × Reply :=
  if Config.readEventsMax < n.toNat then (s, .badField 1)
  else
    let taken := s.rq.events.take n.toNat
    let left := s.rq.events.drop n.toNat
    (s.updRq fun q => { q with events := left, lost := 0 },
      .ok ([byteOf taken.length, byteOf left.length, byteOf s.rq.lost] ++
        taken.flatMap Event.bytes))

/-! ## The commands -/

/-- LOAD_ORDER (R65). -/
def execLoadOrder (f : OrderFields) (s : State) : Host.Outcome State Fault Refusal :=
  .next <| s.request 0x08 (loadOrderRequest f)

/-- WITHDRAW_VEHICLE (R74). -/
def execWithdrawVehicle (tag : List Byte) (s : State) : Host.Outcome State Fault Refusal :=
  .next <| s.request 0x0B (withdrawRequest tag)

/-- READ_ORDER (R77). -/
def execReadOrder (slot : Byte) (s : State) : Host.Outcome State Fault Refusal :=
  .next <| s.request 0x0C (readOrderRequest slot)

/-- RELEASE_ORDER (R76). -/
def execReleaseOrder (slot : Byte) (s : State) : Host.Outcome State Fault Refusal :=
  .next <| s.request 0x0D (releaseRequest slot)

/-- READ_EVENTS (R189). -/
def execReadEvents (n : Byte) (s : State) : Host.Outcome State Fault Refusal :=
  .next <| s.request 0x0E (readEventsRequest n)

end Sys2Proof.Machine
end

