-- ==== Sys2Proof/Machine/Reading.lean ====
section
/-! DEFINITION. The read requests READ-STATION, READ-SPOUT and READ-LANE: what each reply carries and what the reading
clears (R16, R38, R47, R78, R104, R151, R172, R186, R191). -/

namespace Sys2Proof.Machine

/-- A list of references in n places: those after the last are absent, 0xFF (R186; log entry 15). -/
def refBytes (n : Nat) (refs : List Byte) : List Byte :=
  refs ++ List.replicate (n - refs.length) absentByte

/-- An optional reference (R186). -/
def refByte (r : Option Byte) : Byte := r.getD absentByte

/-- The milliseconds left to an optional expiry, 0 when there is none (R186). -/
def State.leftBytes (s : State) (expiry : Option Nat) : List Byte :=
  beBytes 4 ((expiry.map s.left).getD 0)

/-- The line condition as a bit (R191). -/
def LineCond.bit (c : LineCond) : Bool := decide (c = .live)

/-! ## READ-STATION (R47, R151, R186) -/

/-- The store state's code (R191). -/
def StoreState.code : StoreState → Byte
  | .idle => 0
  | .writing .. => 1

/-- The READ-STATION reply (R191). -/
def State.stationBytes (s : State) : List Byte :=
  [byteOf s.fa.g, s.fa.condition.code, spoutSetByte s.fa.holders, byteOf s.fa.requests.length] ++
    refBytes 4 (s.fa.requests.map spoutCode) ++
    [boolByte s.fa.holdAck, s.iob.feedHold.byte, s.iob.airOk.byte, s.cs.store.code] ++
    beBytes 2 (bitSet s.rq.mask.bits) ++ [byteOf s.rq.events.length, byteOf s.rq.lost] ++
    beBytes 2 s.sl.broken ++ beBytes 2 s.sl.lengthErr ++ beBytes 2 s.sl.crcErr ++
    beBytes 2 s.sl.dropped ++
    [byteOf s.sl.address, byteOf s.sl.rate, byteOf s.sl.turnaround, byteOf s.iob.debounce] ++
    beBytes 4 s.msTime

/-- Clears an input's change latch (R47). -/
def Input.clearLatch (v : Input) : Input := { v with latch := false }

/-- READ-STATION: the reply, and the change latches of the two station inputs cleared (R186). -/
def readStationRequest (s : State) : State × Reply :=
  (s.updIob fun b => { b with feedHold := b.feedHold.clearLatch, airOk := b.airOk.clearLatch },
    .ok s.stationBytes)

/-! ## READ-SPOUT (R16, R38, R47, R53, R78, R104, R186) -/

def SpoutInputs.clearLatches (t : SpoutInputs) : SpoutInputs :=
  { spoutDown := t.spoutDown.clearLatch, vehicle := t.vehicle.clearLatch, level := t.level.clearLatch,
    coarseClosed := t.coarseClosed.clearLatch, fineClosed := t.fineClosed.clearLatch }

/-- The flags of a READ-SPOUT reply (R191). -/
def State.spoutFlags (s : State) (sp : Spout) : Byte :=
  setByte [(s.sc.get sp).grantHeld, (s.slr.get sp).line.bit,
    (s.fc.get sp).lastCandidate.isSome]

/-- The items of the Spout Controller and the Order Table in a READ-SPOUT reply (R78, R104): the deadline in SETTLE and
ABORTING, the cause in SUSPENDED and the gathered reasons in ABORTING. -/
def State.spoutLoadBytes (s : State) (sp : Spout) : List Byte :=
  let c := s.sc.get sp
  let settling := decide (c.state = .settle) || decide (c.state = .aborting)
  [c.state.code, s.spoutFlags sp, (c.stage.map fun t => t.name.code).getD 0] ++
    s.leftBytes (c.stage.map (·.expiry)) ++
    s.leftBytes (if settling then c.deadline else none) ++
    [c.lockout.byte,
      if c.state = .suspended then (c.cause.map SuspendCause.code).getD 0 else 0] ++
    (if c.state = .aborting then c.reasons else .empty).bytes ++
    [refByte (c.active.map slotCode), refByte ((s.ot.lastEnded.get sp).map slotCode),
      byteOf (s.ot.queues.get sp).length] ++
    refBytes 4 ((s.ot.queues.get sp).map slotCode)

/-- The items of the Input/Output Block, the Flow Computer and the receiver in a READ-SPOUT reply (R16, R38, R47,
R53). -/
def State.spoutFieldBytes (s : State) (sp : Spout) : List Byte :=
  let f := s.fc.get sp
  let r := s.slr.get sp
  (SpoutInput.all.map fun k => (s.input (.spout sp k)).byte) ++
    [(s.gate sp .coarse).state.code, (s.gate sp .fine).state.code] ++
    beBytes 4 f.span ++ beBytes 2 f.zero ++ beIntBytes 4 f.corr ++ beBytes 4 f.qFilt ++
    [byteOf f.window.length] ++ beBytes 2 (f.lastCandidate.getD 0) ++ beBytes 4 f.stray ++
    beBytes 2 r.badCheck ++ beBytes 2 r.subCount

/-- READ-SPOUT: the reply, the spout's five change latches cleared, and with "clear stray" the stray mass set to 0
(R38, R186). -/
def readSpoutRequest (spout options : Byte) (s : State) : State × Reply :=
  withSpout spout s fun sp =>
    let reply := Reply.ok (s.spoutLoadBytes sp ++ s.spoutFieldBytes sp)
    let s := s.updIob fun b =>
      { b with inputs := b.inputs.set sp (b.inputs.get sp).clearLatches }
    (if options.getLsbD 0 then s.updFc sp fun f => { f with stray := 0 } else s, reply)

/-! ## READ-LANE (R172) -/

/-- Contributions, counts and suspension flags, the lower spout first (R191). -/
def contributionBytes (c : PerSide Contribution) : List Byte :=
  beBytes 4 c.lower.grams ++ beBytes 4 c.upper.grams ++ beBytes 2 c.lower.subCount ++
    beBytes 2 c.upper.subCount ++ beBytes 2 c.lower.overCount ++ beBytes 2 c.upper.overCount ++
    [setByte [c.lower.suspended, c.upper.suspended]]

/-- The line items of a READ-LANE reply (R191). -/
def Lwu.lineBytes (u : Lwu) : List Byte :=
  [boolByte u.line.bit] ++ beBytes 2 u.badCheck ++ [byteOf u.stability] ++
    (match u.lastGross with
      | none => [0, 0, 0, 0]
      | some r => setByte [true, r.motion, r.overload] :: beBytes 3 r.gross)

/-- The waiting claims as a spout set (R191). -/
def claimSet (l : Lane) (c : PerSide Bool) : Byte :=
  match l with
  | .l1 => setByte [c.lower, c.upper]
  | .l2 => setByte [false, false, c.lower, c.upper]

/-- The window record of a READ-LANE reply (R191). -/
def State.windowBytes (s : State) (l : Lane) : List Byte :=
  let w := (s.lwu.get l).window
  [w.state.code] ++ beBytes 2 w.number ++
    [setByte [w.tare.isSome, w.gross.isSome, w.bridgeLost]] ++ beBytes 3 (w.tare.getD 0) ++
    beBytes 3 (w.gross.getD 0) ++
    [claimSet l w.claims, (w.timer.map fun t => t.name.code).getD 0] ++
    s.leftBytes (w.timer.map (·.expiry)) ++ contributionBytes w.contrib

/-- The last result of a READ-LANE reply, all zeros and absent references when none has been made (R186, R191). -/
def resultBytes : Option WeighResult → List Byte
  | none => List.replicate 37 0 ++ [absentByte] ++ List.replicate 4 0
  | some r =>
    [setByte [true, r.tare.isSome, r.gross.isSome, r.nb.isSome, r.bridgeLost], r.outcome.code] ++
      beBytes 2 r.number ++ beBytes 3 (r.tare.getD 0) ++ beBytes 3 (r.gross.getD 0) ++
      beBytes 5 r.nm ++ beIntBytes 5 (r.nb.getD 0) ++ contributionBytes r.contrib ++
      [refByte (r.corrected.map spoutCode)] ++ beBytes 4 (r.newSpan.getD 0)

/-- The lane parameters of a READ-LANE reply (R191): a CONFIG-LANE body without its lane. -/
def LaneParams.bytes (p : LaneParams) : List Byte := (encodeLaneFields (laneFieldsOf 0 p)).tail

/-- READ-LANE (R172). -/
def readLaneRequest (lane : Byte) (s : State) : State × Reply :=
  withLane lane s fun l =>
    let u := s.lwu.get l
    (s, .ok (u.lineBytes ++ s.windowBytes l ++ resultBytes u.lastResult ++ u.params.bytes))

/-! ## The commands -/

/-- READ_STATION (R186). -/
def execReadStation (s : State) : Host.Outcome State Fault Refusal :=
  .next <| s.request 0x01 readStationRequest

/-- READ_SPOUT (R186). -/
def execReadSpout (spout options : Byte) (s : State) : Host.Outcome State Fault Refusal :=
  .next <| s.request 0x05 (readSpoutRequest spout options)

/-- READ_LANE (R172). -/
def execReadLane (lane : Byte) (s : State) : Host.Outcome State Fault Refusal :=
  .next <| s.request 0x11 (readLaneRequest lane)

end Sys2Proof.Machine
end

