-- ==== Sys2Proof/Machine/StationLink.lean ====
section
/-! DEFINITION. The Station Link: frames received, tested, dispatched and answered (R175 to R185), and RESTART (R196). -/

namespace Sys2Proof.Machine

/-! ## RESTART (R196) -/

/-- RESTART is accepted in every state; the restart is made when its reply has been sent or dropped (R196). -/
def restartRequest (s : State) : State × Reply := (s, .ok [])

/-- RESTART (R196). -/
def execRestart (s : State) : Host.Outcome State Fault Refusal :=
  .next <| s.request 0x13 restartRequest

/-! ## Dispatch (R179) -/

/-- The step of the block that owns a request (R179). An event is no request: it is answered as an unknown kind, and
decodeRequest never gives one. -/
def runRequest (i : Instr) (s : State) : State × Reply :=
  match i with
  | .readStation => readStationRequest s
  | .configStation f => configStationRequest f s
  | .configLane f => configLaneRequest f s
  | .configSpout f => configSpoutRequest f s
  | .readSpout spout options => readSpoutRequest spout options s
  | .setCalibration spout span zero corr => setCalibrationRequest spout span zero corr s
  | .zero spout => zeroRequest spout s
  | .loadOrder f => loadOrderRequest f s
  | .start spout => startRequest spout s
  | .stop spout => stopRequest spout s
  | .withdrawVehicle tag => withdrawRequest tag s
  | .readOrder slot => readOrderRequest slot s
  | .releaseOrder slot => releaseRequest slot s
  | .readEvents n => readEventsRequest n s
  | .setOutputs setMask clearMask => setOutputsRequest setMask clearMask s
  | .clearLockout spout => clearLockoutRequest spout s
  | .readLane lane => readLaneRequest lane s
  | .saveCalibration => saveRequest s
  | .restart => restartRequest s
  | .sensorByteArrival .. | .sensorCharacterError .. | .collectionGapExpiry .. | .frameWatchExpiry ..
  | .zeroTrackExpiry .. | .inputRawChange .. | .debounceExpiry .. | .gateTravelExpiry ..
  | .feedWaitExpiry .. | .primeExpiry .. | .settleExpiry .. | .suspendExpiry ..
  | .weighbridgeByteArrival .. | .weighbridgeCharacterError .. | .weighbridgeGapExpiry ..
  | .lossTimerExpiry .. | .tareTimerExpiry .. | .grossTimerExpiry .. | .stationByteArrival ..
  | .stationCharacterError | .stationGapExpiry | .turnaroundExpiry | .replySent
  | .storePartComplete | .storeWriteComplete .. | .storePartTimeout | .supplyFall
  | .supplyStableExpiry | .resetTerminalChange .. | .resetFilterExpiry | .resetAssertExpiry
  | .warmTerminalChange .. | .warmFilterExpiry | .warmAssertExpiry | .supplyRise =>
    (s, .refuse .unknownKind)

/-! ## Frames (R176 to R178) -/

/-- What the test of a complete frame decides (R178). -/
inductive FrameVerdict where
  | badCrc
  | ignored
  | answer (kind : Byte) (r : Reply)
  | dispatch (kind : Byte) (i : Instr)
  deriving DecidableEq, Repr

/-- The tests of a complete frame, in the order of R178. The bytes are those after the start byte: address, kind, length,
body and the two bytes of the CRC. -/
def testFrame (address : Nat) (bytes : List Byte) : FrameVerdict :=
  let covered := bytes.take (bytes.length - 2)
  let kind := byteAt 1 bytes
  let body := covered.drop 3
  if crc16 covered ≠ wordAt (bytes.length - 2) bytes then .badCrc
  else if (byteAt 0 bytes).toNat ≠ address then .ignored
  else if kind.msb then .ignored
  else
    match bodySize kind, decodeRequest kind body with
    | none, _ => .answer kind (.refuse .unknownKind)
    | some n, none => .answer kind (.badLength n)
    | some _, some i => .dispatch kind i

/-- A complete frame: the link returns to LISTEN and the frame is ignored, answered or dispatched (R178). -/
def State.completeFrame (s : State) (bytes : List Byte) : State :=
  let s := s.updSl fun l => { l with rx := .listen }
  match testFrame s.sl.address bytes with
  | .badCrc => s.updSl fun l => { l with crcErr := satAdd Config.countMax l.crcErr 1 }
  | .ignored => s
  | .answer kind r => s.take kind fun s => (s, r)
  | .dispatch kind i => s.take kind (runRequest i)

/-- A byte appended to a partial frame (R177). -/
def State.frameByte (s : State) (bytes : List Byte) : State :=
  let len := (byteAt 2 bytes).toNat
  if bytes.length < 3 then
    s.updSl fun l => { l with rx := .frame bytes (s.now + Config.stationGap) }
  else if Config.bodyMax < len then
    s.updSl fun l => { l with rx := .listen, lengthErr := satAdd Config.countMax l.lengthErr 1 }
  else if bytes.length < 3 + len + 2 then
    s.updSl fun l => { l with rx := .frame bytes (s.now + Config.stationGap) }
  else s.completeFrame bytes

/-- A start byte in LISTEN: a waiting reply is dropped, then a new frame begins (R177, R181). -/
def State.startByte (s : State) : State :=
  let s :=
    match s.sl.tx with
    | .waiting p _ => s.dropReply p
    | _ => s
  s.updSl fun l => { l with rx := .frame [] (s.now + Config.stationGap) }

/-- A byte arrival; while a reply is being sent the receiver is disabled (R175, R177). -/
def State.stationByte (s : State) (b : Byte) : State :=
  match s.sl.tx, s.sl.rx with
  | .sending _ _, _ => s
  | _, .listen => if b = 0xA5 then s.startByte else s
  | _, .frame bytes _ => s.frameByte (bytes ++ [b])

/-- A frame discarded by its gap or by a character error (R177). -/
def State.breakFrame (s : State) : State :=
  s.updSl fun l => { l with rx := .listen, broken := satAdd Config.countMax l.broken 1 }

/-- The reply frame: the station address, the request's kind with the top bit set, the body length, the body and the CRC
(R176, R180, R182). -/
def replyFrame (address : Nat) (p : PendingReply) : List Byte :=
  let body := p.reply.status.code :: p.reply.contents
  let covered := [byteOf address, p.kind ||| 0x80, byteOf body.length] ++ body
  [0xA5] ++ covered ++ wordBytes (crc16 covered)

/-! ## The commands -/

/-- STATION_BYTE_ARRIVAL (R177). -/
def execStationByteArrival (byte : Byte) (s : State) : Host.Outcome State Fault Refusal :=
  .next <| s.whenRunning fun s => s.stationByte byte

/-- STATION_CHARACTER_ERROR: in FRAME the frame is discarded, in LISTEN nothing changes, and while a reply is being sent it
is not received (R175, R177). -/
def execStationCharacterError (s : State) : Host.Outcome State Fault Refusal :=
  .next <| s.whenRunning fun s =>
    match s.sl.tx, s.sl.rx with
    | .sending _ _, _ => s
    | _, .listen => s
    | _, .frame _ _ => s.breakFrame

/-- STATION_GAP_EXPIRY (R177). -/
def execStationGapExpiry (s : State) : Host.Outcome State Fault Refusal :=
  .next <| s.whenRunning fun s =>
    match s.sl.rx with
    | .listen => s
    | .frame _ gap => (s.reach gap).breakFrame

/-- TURNAROUND_EXPIRY: the reply frame goes out (R180). -/
def execTurnaroundExpiry (s : State) : Host.Outcome State Fault Refusal :=
  .next <| s.whenRunning fun s =>
    match s.sl.tx with
    | .waiting p t =>
      (s.reach t).updSl fun l => { l with tx := .sending p (replyFrame l.address p) }
    | _ => s

/-- REPLY_SENT: the receiver is enabled in LISTEN, the pending reply is discarded, and a RESTART is made (R180, R196). -/
def execReplySent (s : State) : Host.Outcome State Fault Refusal :=
  .next <| s.whenRunning fun s =>
    match s.sl.tx with
    | .sending p _ => (s.updSl fun l => { l with rx := .listen, tx := .idle }).replyGone p
    | _ => s

end Sys2Proof.Machine
end

