-- ==== Sys2Proof/Machine/Dispatch.lean ====
section
/-! DEFINITION. exec: one arm for each command, in the order of spec/opcode_table.json. -/

namespace Sys2Proof.Machine

/-- The effect of a command on everything but the queue of waiting commands. -/
def exec (i : Instr) (s : State) : Host.Outcome State Fault Refusal :=
  match i with
  | .sensorByteArrival sp byte => Sys2Proof.Machine.execSensorByteArrival sp byte s
  | .sensorCharacterError sp => Sys2Proof.Machine.execSensorCharacterError sp s
  | .collectionGapExpiry sp => Sys2Proof.Machine.execCollectionGapExpiry sp s
  | .frameWatchExpiry sp => Sys2Proof.Machine.execFrameWatchExpiry sp s
  | .zeroTrackExpiry sp => Sys2Proof.Machine.execZeroTrackExpiry sp s
  | .inputRawChange input active => Sys2Proof.Machine.execInputRawChange input active s
  | .debounceExpiry input => Sys2Proof.Machine.execDebounceExpiry input s
  | .gateTravelExpiry sp g => Sys2Proof.Machine.execGateTravelExpiry sp g s
  | .readStation => Sys2Proof.Machine.execReadStation s
  | .configStation f => Sys2Proof.Machine.execConfigStation f s
  | .configLane f => Sys2Proof.Machine.execConfigLane f s
  | .configSpout f => Sys2Proof.Machine.execConfigSpout f s
  | .readSpout spout options => Sys2Proof.Machine.execReadSpout spout options s
  | .setCalibration spout span zero corr => Sys2Proof.Machine.execSetCalibration spout span zero corr s
  | .zero spout => Sys2Proof.Machine.execZero spout s
  | .loadOrder f => Sys2Proof.Machine.execLoadOrder f s
  | .start spout => Sys2Proof.Machine.execStart spout s
  | .stop spout => Sys2Proof.Machine.execStop spout s
  | .withdrawVehicle tag => Sys2Proof.Machine.execWithdrawVehicle tag s
  | .readOrder slot => Sys2Proof.Machine.execReadOrder slot s
  | .releaseOrder slot => Sys2Proof.Machine.execReleaseOrder slot s
  | .readEvents n => Sys2Proof.Machine.execReadEvents n s
  | .setOutputs setMask clearMask => Sys2Proof.Machine.execSetOutputs setMask clearMask s
  | .clearLockout spout => Sys2Proof.Machine.execClearLockout spout s
  | .readLane lane => Sys2Proof.Machine.execReadLane lane s
  | .saveCalibration => Sys2Proof.Machine.execSaveCalibration s
  | .restart => Sys2Proof.Machine.execRestart s
  | .feedWaitExpiry sp => Sys2Proof.Machine.execFeedWaitExpiry sp s
  | .primeExpiry sp => Sys2Proof.Machine.execPrimeExpiry sp s
  | .settleExpiry sp => Sys2Proof.Machine.execSettleExpiry sp s
  | .suspendExpiry sp => Sys2Proof.Machine.execSuspendExpiry sp s
  | .weighbridgeByteArrival l byte => Sys2Proof.Machine.execWeighbridgeByteArrival l byte s
  | .weighbridgeCharacterError l => Sys2Proof.Machine.execWeighbridgeCharacterError l s
  | .weighbridgeGapExpiry l => Sys2Proof.Machine.execWeighbridgeGapExpiry l s
  | .lossTimerExpiry l => Sys2Proof.Machine.execLossTimerExpiry l s
  | .tareTimerExpiry l => Sys2Proof.Machine.execTareTimerExpiry l s
  | .grossTimerExpiry l => Sys2Proof.Machine.execGrossTimerExpiry l s
  | .stationByteArrival byte => Sys2Proof.Machine.execStationByteArrival byte s
  | .stationCharacterError => Sys2Proof.Machine.execStationCharacterError s
  | .stationGapExpiry => Sys2Proof.Machine.execStationGapExpiry s
  | .turnaroundExpiry => Sys2Proof.Machine.execTurnaroundExpiry s
  | .replySent => Sys2Proof.Machine.execReplySent s
  | .storePartComplete => Sys2Proof.Machine.execStorePartComplete s
  | .storeWriteComplete held => Sys2Proof.Machine.execStoreWriteComplete held s
  | .storePartTimeout => Sys2Proof.Machine.execStorePartTimeout s
  | .supplyFall => Sys2Proof.Machine.execSupplyFall s
  | .supplyStableExpiry => Sys2Proof.Machine.execSupplyStableExpiry s
  | .resetTerminalChange asserted => Sys2Proof.Machine.execResetTerminalChange asserted s
  | .resetFilterExpiry => Sys2Proof.Machine.execResetFilterExpiry s
  | .resetAssertExpiry => Sys2Proof.Machine.execResetAssertExpiry s
  | .warmTerminalChange asserted => Sys2Proof.Machine.execWarmTerminalChange asserted s
  | .warmFilterExpiry => Sys2Proof.Machine.execWarmFilterExpiry s
  | .warmAssertExpiry => Sys2Proof.Machine.execWarmAssertExpiry s
  | .supplyRise => Sys2Proof.Machine.execSupplyRise s

end Sys2Proof.Machine
end

