-- ==== Sys2Proof/Machine/Timers.lean ====
section
/-! DEFINITION. The running timers of the part, each with the command its expiry is, and the one that is due (log entry
4: the part's own time while no command waits). -/

namespace Sys2Proof.Machine

/-- A running timer: the moment of its expiry and the command that takes the expiry. -/
abbrev Due := Nat × Instr

/-- The entry of an optional timer. -/
def dueOpt (t : Option Nat) (c : Instr) : List Due := t.toList.map fun e => (e, c)

/-- The gap timer of a line in COLLECT (R3, R156). -/
def Framing.gap : Framing → Option Nat
  | .hunt => none
  | .collect _ gap => some gap

/-- The command that takes the stage timer's expiry (R93, R95, R100, R134). -/
def StageName.command (n : StageName) (sp : Spout) : Instr :=
  match n with
  | .prime => .primeExpiry sp
  | .feedWait => .feedWaitExpiry sp
  | .settle => .settleExpiry sp
  | .suspend => .suspendExpiry sp

/-- The command that takes the window timer's expiry (R164, R167). -/
def LaneTimerName.command (n : LaneTimerName) (l : Lane) : Instr :=
  match n with
  | .tare => .tareTimerExpiry l
  | .gross => .grossTimerExpiry l

/-- The running timers of a spout: receiver, Flow Computer, inputs, gates and stage timer. -/
def State.spoutTimers (s : State) (sp : Spout) : List Due :=
  dueOpt (s.slr.get sp).framing.gap (.collectionGapExpiry sp) ++
    dueOpt (s.slr.get sp).watch (.frameWatchExpiry sp) ++
    dueOpt (s.fc.get sp).zeroTimer (.zeroTrackExpiry sp) ++
    (SpoutInput.all.flatMap fun k =>
      dueOpt (s.input (.spout sp k)).timer (.debounceExpiry (.spout sp k))) ++
    dueOpt (s.gate sp .coarse).timer (.gateTravelExpiry sp .coarse) ++
    dueOpt (s.gate sp .fine).timer (.gateTravelExpiry sp .fine) ++
    ((s.sc.get sp).stage.toList.map fun t => (t.expiry, t.name.command sp))

/-- The running timers of a lane. -/
def State.laneTimers (s : State) (l : Lane) : List Due :=
  dueOpt (s.lwu.get l).framing.gap (.weighbridgeGapExpiry l) ++
    dueOpt (s.lwu.get l).lossTimer (.lossTimerExpiry l) ++
    ((s.lwu.get l).window.timer.toList.map fun t => (t.expiry, t.name.command l))

/-- The gap timer of a station frame (R177). -/
def Rx.gap : Rx → Option Nat
  | .listen => none
  | .frame _ gap => some gap

/-- The turnaround timer (R180). -/
def Tx.turnaround : Tx → Option Nat
  | .waiting _ t => some t
  | _ => none

/-- The time limit of a part of the image write (R194). -/
def StoreState.limit : StoreState → Option Nat
  | .idle => none
  | .writing _ _ t => some t

/-- The running timers of the station: its inputs, the link, the store and the WARM terminal. -/
def State.stationTimers (s : State) : List Due :=
  dueOpt s.iob.feedHold.timer (.debounceExpiry .feedHold) ++
    dueOpt s.iob.airOk.timer (.debounceExpiry .airOk) ++
    dueOpt s.sl.rx.gap .stationGapExpiry ++
    dueOpt s.sl.tx.turnaround .turnaroundExpiry ++
    dueOpt s.cs.store.limit .storePartTimeout ++
    dueOpt s.rst.warm.filter .warmFilterExpiry ++
    dueOpt s.rst.warm.assertion .warmAssertExpiry

/-- The timers of the supervisor and of the RESET terminal, which run while a reset is held too (R195). -/
def State.resetTimers (s : State) : List Due :=
  dueOpt s.rst.stable .supplyStableExpiry ++ dueOpt s.rst.reset.filter .resetFilterExpiry ++
    dueOpt s.rst.reset.assertion .resetAssertExpiry

/-- Every running timer. No timer of a block runs while a reset is held (R195). -/
def State.timers (s : State) : List Due :=
  s.resetTimers ++
    (if s.rst.held.isSome then []
    else
      Spout.all.flatMap s.spoutTimers ++ Lane.all.flatMap s.laneTimers ++ s.stationTimers)

/-- The earlier of two entries, the first of equals. -/
def Due.earlier (a b : Due) : Due := if b.1 < a.1 then b else a

/-- The command of the timer that expires first, once its expiry has come. -/
def State.dueCommand (s : State) : Option Instr :=
  match s.timers with
  | [] => none
  | d :: rest =>
    let first := rest.foldl Due.earlier d
    if first.1 ≤ s.now then some first.2 else none

/-- One millisecond passes. -/
def State.tick (s : State) : State := { s with now := s.now + 1 }

end Sys2Proof.Machine
end

