-- ==== Sys2Proof/Safety.lean ====
section
/-! DEFINITION. What counts as a safe state, in the terms the statements use: when a command is taken, what a taken request
leaves at the link, and the properties the spec says hold at all times. -/

namespace Sys2Proof.Safety

open Sys2Proof.Machine

/-! ## When a command is taken -/

/-- No reset is held (R195). -/
def Running (s : State) : Prop := s.rst.held = none

/-- A request that arrives now is taken and answered: no reset is held and no reply waits or is being sent (R180). -/
def Ready (s : State) : Prop := Running s ∧ s.sl.tx = .idle

/-- The link after a request has been taken with a reply (R180). -/
def answered (s : State) (kind : Byte) (r : Reply) : Sl :=
  { s.sl with rx := .listen, tx := .waiting ⟨kind, r⟩ (s.now + s.sl.turnaround) }

/-- The state after a request that changes nothing but the link (R182). -/
def answeredOnly (s : State) (kind : Byte) (r : Reply) : State := { s with sl := answered s kind r }

/-- The frame that carries bytes covered by a CRC: the start byte, the bytes, the CRC (R176). -/
def framed (covered : List Byte) : List Byte := [0xA5] ++ covered ++ wordBytes (crc16 covered)

/-- The frame of a request: address, kind, body length, body (R176). -/
def requestFrame (address : Nat) (kind : Byte) (body : List Byte) : List Byte :=
  framed ([byteOf address, kind, byteOf body.length] ++ body)

/-- Commands taken one after another. -/
def runAll : List Instr → State → Host.Outcome State Fault Refusal
  | [], s => .next s
  | c :: cs, s =>
    match exec c s with
    | .next t => runAll cs t
    | o => o

/-- The commands that act while a reset is held: the supply, the RESET terminal and the raw levels of the inputs and of
the WARM terminal (R41, R195, R196). -/
def actsInReset : Instr → Bool
  | .inputRawChange _ _ => true
  | .supplyFall => true
  | .supplyRise => true
  | .supplyStableExpiry => true
  | .resetTerminalChange _ => true
  | .resetFilterExpiry => true
  | .resetAssertExpiry => true
  | .warmTerminalChange _ => true
  | _ => false

/-! ## What holds at all times -/

/-- The report queue holds at most 32 events, and the lost count is at most 255 (R187). -/
def QueueBounded (s : State) : Prop := s.rq.events.length ≤ 32 ∧ s.rq.lost ≤ 255

/-- The number of spouts holding a feed grant is at most G (R141). -/
def GrantLimit (s : State) : Prop := (Spout.all.filter s.fa.holders.get).length ≤ s.fa.g

/-- No grant is due: the condition is not NORMAL, or the holders are at G, or no spout waits (R141). -/
def GrantsSettled (s : State) : Prop :=
  s.fa.condition = .normal → s.fa.requests ≠ [] →
    s.fa.g ≤ (Spout.all.filter s.fa.holders.get).length

/-- A spout that waits in the request list is in WAIT_FEED or SUSPENDED and waits once; a holder is in a flowing state;
and a spout whose lockout set is not empty is in IDLE or ABORTING (section 8.1, R135, R140). -/
def FeedPlaces (s : State) : Prop :=
  s.fa.requests.Nodup ∧
    (∀ sp ∈ s.fa.requests, (s.sc.get sp).state = .waitFeed ∨ (s.sc.get sp).state = .suspended) ∧
    (∀ sp, s.fa.holders.get sp = true → (s.sc.get sp).state.isFlowing = true) ∧
    (∀ sp, (s.sc.get sp).lockout ≠ .empty →
      (s.sc.get sp).state = .idle ∨ (s.sc.get sp).state = .aborting)

/-- COARSE_GATE is on only in COARSE, FINE_GATE only in COARSE or FINE, AERATION only in a flowing state, and a spout is in
a flowing state exactly while it holds a grant (R82). -/
def GatePermissions (s : State) : Prop :=
  ∀ sp,
    (s.iob.coarseOut.get sp = true → (s.sc.get sp).state = .coarse) ∧
    (s.iob.fineOut.get sp = true → (s.sc.get sp).state = .coarse ∨ (s.sc.get sp).state = .fine) ∧
    (s.iob.aeration.get sp = true → (s.sc.get sp).state.isFlowing = true) ∧
    ((s.sc.get sp).grantHeld = true ↔ (s.sc.get sp).state.isFlowing = true) ∧
    s.fa.holders.get sp = (s.sc.get sp).grantHeld

/-- Whether a gate's supervision takes the gate as commanded open (R51). -/
def commandedOpen : GateState → Bool
  | .opening => true
  | .opened => true
  | _ => false

/-- The travel timer of a gate runs exactly in OPENING and CLOSING (R51), and, while no reset is held, the gate's terminal is
on exactly when its supervision takes it as commanded open (R49). -/
def GatesSupervised (s : State) : Prop :=
  ∀ sp g,
    ((s.gate sp g).timer.isSome = true ↔
      (s.gate sp g).state = .opening ∨ (s.gate sp g).state = .closing) ∧
    (Running s →
      (match g with
        | .coarse => s.iob.coarseOut.get sp
        | .fine => s.iob.fineOut.get sp) = commandedOpen (s.gate sp g).state)

/-- The block's view of every source condition is the condition as its owner has it (R55, R56). -/
def ViewsExact (s : State) : Prop :=
  (∀ sp,
    s.iob.views.active.get sp = (s.sc.get sp).state.isActive ∧
    s.iob.views.flowing.get sp = (s.sc.get sp).state.isFlowing ∧
    (s.iob.views.lockout.get sp = true ↔ (s.sc.get sp).lockout ≠ .empty) ∧
    s.iob.views.result.get sp = (s.ot.lastEnded.get sp).isSome) ∧
  (∀ l,
    s.iob.views.weighing.get l = true ↔
      (s.lwu.get l).window.state = .taring ∨ (s.lwu.get l).window.state = .weighing) ∧
  (s.iob.views.feedHeld = true ↔ s.fa.condition ≠ .normal)

/-- While no reset is held, each configurable output is on exactly when its source condition, combined with the invert
flag, is true (R55); HOLD_ACK is on exactly when FEED_HOLD is on and no grant is held (R150); and ATTENTION is on exactly
while the queue holds an event whose category is enabled (R188). While one is held every output is off (R195). -/
def OutputsExact (s : State) : Prop :=
  (Running s →
    (∀ o ∈ s.iob.outputs, o.terminal = (s.iob.views.holds o.cfg o.manual != o.cfg.invert)) ∧
    (s.iob.holdAck = true ↔
      s.fa.feedHoldView = .active ∧ ∀ sp, s.fa.holders.get sp = false) ∧
    (s.iob.attention = true ↔ ∃ e ∈ s.rq.events, s.rq.mask.enables e.body = true)) ∧
  (¬ Running s →
    (∀ o ∈ s.iob.outputs, o.terminal = false) ∧ s.iob.holdAck = false ∧ s.iob.attention = false ∧
    ∀ sp, s.iob.coarseOut.get sp = false ∧ s.iob.fineOut.get sp = false ∧
      s.iob.aeration.get sp = false)

/-- The window holds at most W flows, none above QMAX; q_filt is their rounded mean; the residue is below 1,000 mg; and at
most 16 raw counts are held (R23, R25, R26, R32). -/
def FlowRanges (s : State) : Prop :=
  ∀ sp,
    (s.fc.get sp).window.length ≤ (s.params.get sp).w ∧
    (∀ q ∈ (s.fc.get sp).window, q ≤ 200000) ∧
    (s.fc.get sp).qFilt = roundedMean (s.fc.get sp).window ∧
    (s.fc.get sp).residue < 1000 ∧
    (s.fc.get sp).history.length ≤ 16

/-- A span and a correction lie in their ranges for an Lmax (R20). -/
def CalibrationIn (lmax span : Nat) (corr : Int) : Prop :=
  1 ≤ span ∧ span ≤ 1048575 ∧ -(lmax : Int) ≤ corr ∧ corr ≤ lmax

/-- The calibrations of stored items lie in their ranges (R20, R192). -/
def ItemsCalibrated (t : Items) : Prop :=
  ∀ sp, CalibrationIn (t.spouts.get sp).params.lmax (t.spouts.get sp).span (t.spouts.get sp).corr

/-- S lies within 1 to 1,048,575, and L within −Lmax to +Lmax for the spout's current Lmax, for the live values, the image,
and the copy that a write holds (R20, R192, R194). -/
def CalibrationRanges (s : State) : Prop :=
  (∀ sp, CalibrationIn (s.params.get sp).lmax (s.fc.get sp).span (s.fc.get sp).corr) ∧
  ItemsCalibrated s.cs.image.items ∧
  (∀ part copy limit, s.cs.store = .writing part copy limit → ItemsCalibrated copy)

/-- Every order slot is in exactly one place (R62, R63): a queue holds at most 4 distinct QUEUED slots of its own spout, and
a QUEUED slot stands in its spout's queue; a spout has an ACTIVE slot exactly while it is in an active state, the Flow
Computer names the same slot, and an ACTIVE slot is its spout's; the most recently ended slot of a spout has ended there; a
FREE slot carries the cleared record (R61). -/
def OrdersPlaced (s : State) : Prop :=
  (∀ sp,
    (s.ot.queues.get sp).length ≤ 4 ∧ (s.ot.queues.get sp).Nodup ∧
    (∀ i, i ∈ s.ot.queues.get sp ↔
      (s.ot.slot i).state = .queued ∧ (s.ot.slot i).spout = some sp) ∧
    (∀ i, (s.sc.get sp).active = some i ↔
      (s.ot.slot i).state = .active ∧ (s.ot.slot i).spout = some sp) ∧
    ((s.sc.get sp).active.isSome = (s.sc.get sp).state.isActive) ∧
    ((s.fc.get sp).active = (s.sc.get sp).active) ∧
    (∀ i, s.ot.lastEnded.get sp = some i →
      (s.ot.slot i).state.ended = true ∧ (s.ot.slot i).spout = some sp)) ∧
  (∀ i, ((s.ot.slot i).state = .free ↔ s.ot.slot i = .cleared) ∧
    ((s.ot.slot i).state ≠ .free → (s.ot.slot i).spout ≠ none))

/-- The name under which a spout state runs the stage timer, where it runs one (R81). -/
def stageOf : SpoutState → Option StageName
  | .idle => none
  | .tare => none
  | .waitFeed => some .feedWait
  | .aerate => some .prime
  | .coarse => none
  | .fine => none
  | .settle => some .settle
  | .suspended => some .suspend
  | .aborting => some .settle

/-- A spout runs the stage timer its state names and no other (R81); it holds a settle deadline in SETTLE and ABORTING
alone, and a suspension cause in SUSPENDED alone (section 5.1). -/
def StagesPlaced (s : State) : Prop :=
  ∀ sp,
    (s.sc.get sp).stage.map (·.name) = stageOf (s.sc.get sp).state ∧
    ((s.sc.get sp).deadline.isSome = true ↔
      (s.sc.get sp).state = .settle ∨ (s.sc.get sp).state = .aborting) ∧
    ((s.sc.get sp).cause.isSome = true ↔ (s.sc.get sp).state = .suspended)

/-- The name of the timer that a window state runs, where it runs one (section 9.4). -/
def windowTimerOf : WindowState → Option LaneTimerName
  | .closed => none
  | .taring => some .tare
  | .opened => none
  | .weighing => some .gross

/-- A window runs the timer its state names and no other; a claim waits exactly while its spout is in TARE; a claim waits in
TARING, none waits in CLOSED or OPEN; and while the window is OPEN a spout of the lane is in an active state (R163 to R165,
R167). -/
def WindowsPlaced (s : State) : Prop :=
  ∀ l,
    ((s.lwu.get l).window.timer.map (·.name) = windowTimerOf (s.lwu.get l).window.state) ∧
    (∀ p, (s.lwu.get l).window.claims.get p = true ↔ (s.sc.get (l.spout p)).state = .tare) ∧
    ((s.lwu.get l).window.state = .taring → ∃ p, (s.lwu.get l).window.claims.get p = true) ∧
    ((s.lwu.get l).window.state = .closed ∨ (s.lwu.get l).window.state = .opened →
      ∀ p, (s.lwu.get l).window.claims.get p = false) ∧
    ((s.lwu.get l).window.state = .opened → ∃ p, (s.sc.get (l.spout p)).state.isActive = true)

/-- A line in COLLECT holds a partial frame that begins with a header candidate and is shorter than a frame (sections 1.3 and
9.1): candidates lie in lo to hi, a frame has size bytes. -/
def FramingIn (lo hi size : Nat) : Framing → Prop
  | .hunt => True
  | .collect bytes _ =>
    bytes.length < size ∧ ∃ b rest, bytes = b :: rest ∧ lo ≤ b.toNat ∧ b.toNat ≤ hi

/-- The lines' framing holds only what a frame can begin with; a LIVE line holds no restore run, a LOST one no more than two
steps of it and two samples for each step (sections 1.3, 9.1 and 9.2). -/
def LinesFramed (s : State) : Prop :=
  (∀ sp,
    FramingIn 0xA0 0xBF 6 (s.slr.get sp).framing ∧
    (s.slr.get sp).goodRun ≤ 2 ∧
    (s.slr.get sp).hold.length = 2 * (s.slr.get sp).goodRun ∧
    ((s.slr.get sp).line = .live → (s.slr.get sp).goodRun = 0) ∧
    ((s.slr.get sp).line = .lost → (s.slr.get sp).subRun = 0)) ∧
  (∀ l,
    FramingIn 0xC0 0xDF 5 (s.lwu.get l).framing ∧
    (s.lwu.get l).restoreRun ≤ 2 ∧
    ((s.lwu.get l).line = .live → (s.lwu.get l).restoreRun = 0))

/-! ## What the statements say of one command -/

/-- The bytes after a rejected header make a new partial frame from their first header candidate on, its gap timer running to
an expiry; with no candidate among them the line is in HUNT (R6, R157). Candidates lie in lo to hi. -/
def Reexamined (lo hi : Nat) (bytes : List Byte) (expiry : Nat) (f : Framing) : Prop :=
  ((∀ b ∈ bytes, b.toNat < lo ∨ hi < b.toNat) ∧ f = .hunt) ∨
    ∃ before h after,
      bytes = before ++ h :: after ∧ (∀ b ∈ before, b.toNat < lo ∨ hi < b.toNat) ∧
        lo ≤ h.toNat ∧ h.toNat ≤ hi ∧ f = .collect (h :: after) expiry

/-- The rounded flow of a raw count before the ceiling: net count times S, over 4096, half up (R22, R23). -/
def roundedFlow (f : Fc) (count : Nat) : Nat := ((count - f.zero) * f.span + 2048) / 4096

/-- The flow of a raw count under the ceiling of 200,000 g/s (R23). -/
def flowOf (f : Fc) (x : RawSample) : Nat := min 200000 (roundedFlow f x.count)

/-- How many samples are overrange: clamped at the ceiling, or carrying the overload flag (R23). -/
def overrangeCount (f : Fc) (xs : List RawSample) : Nat :=
  (xs.filter fun x => decide (200000 < roundedFlow f x.count) || x.overload).length

/-- The Flow Computer after items of these flows, all at once: the window keeps the last W flows, q_filt is its rounded mean,
and of the milligrams gathered the whole grams leave the residue, for the stray mass while no order is active (R25 to R27). -/
def Fc.afterItems (f : Fc) (w : Nat) (qs : List Nat) : Fc :=
  { f with
    window := keepLast w (f.window ++ qs)
    qFilt := roundedMean (keepLast w (f.window ++ qs))
    residue := (f.residue + 10 * qs.sum) % 1000
    stray :=
      if f.active.isSome then f.stray
      else min 4294967295 (f.stray + (f.residue + 10 * qs.sum) / 1000) }

/-- The part after a spout's Flow Computer has taken items of these flows, so many of them substituted and so many overrange:
the whole grams go to the active order or to the stray mass, and to the lane's window while it is OPEN or WEIGHING (R25 to
R28, R166). -/
def afterItems (s : State) (sp : Spout) (qs : List Nat) (subs overs : Nat) : State :=
  let f := s.fc.get sp
  let grams := (f.residue + 10 * qs.sum) / 1000
  let w := (s.lwu.get sp.lane).window
  { s with
    fc := s.fc.set sp (Fc.afterItems f (s.params.get sp).w qs)
    ot :=
      match f.active with
      | none => s.ot
      | some i =>
        s.ot.setSlot i
          { s.ot.slot i with
            mass := min 4294967295 ((s.ot.slot i).mass + grams)
            subCount := min 65535 ((s.ot.slot i).subCount + subs)
            overCount := min 65535 ((s.ot.slot i).overCount + overs) }
    lwu :=
      if w.state = .opened ∨ w.state = .weighing then
        s.lwu.set sp.lane
          { s.lwu.get sp.lane with
            window :=
              { w with
                contrib :=
                  w.contrib.set sp.side
                    { w.contrib.get sp.side with
                      grams := min 4294967295 ((w.contrib.get sp.side).grams + grams)
                      subCount := min 65535 ((w.contrib.get sp.side).subCount + subs)
                      overCount := min 65535 ((w.contrib.get sp.side).overCount + overs) } } }
      else s.lwu }

/-- The other spout of the lane. -/
def mate : Spout → Spout
  | .a => .b
  | .b => .a
  | .c => .d
  | .d => .c

/-- The queue after an event of this step (R187): at the tail with the step's time, or, when 32 are held, counted as lost. -/
def queued (s : State) (src : EventSource) (body : EventBody) : Rq :=
  if s.rq.events.length < 32 then { s.rq with events := s.rq.events ++ [⟨src, s.msTime, body⟩] }
  else { s.rq with lost := min 255 (s.rq.lost + 1) }

/-- The part after an event of this step (R187, R188): the queue with the event, and ATTENTION as it then stands. -/
def reported (s : State) (src : EventSource) (body : EventBody) : State :=
  let rq := queued s src body
  { s with rq, iob := { s.iob with attention := rq.attention } }

/-- The part after an event that is queued on a condition, such as an input's report enable. -/
def reportedIf (p : Bool) (s : State) (src : EventSource) (body : EventBody) : State :=
  if p then reported s src body else s

/-- A gate after a command (R51). -/
def gateAfter (s : State) (sp : Spout) (g : Gate) (open? : Bool) : GateSup :=
  match open?, (s.gate sp g).state with
  | true, .closed => ⟨.opening, some (s.now + (s.params.get sp).gateTravel)⟩
  | true, .closing => ⟨.opened, none⟩
  | true, .unproven => ⟨.opened, none⟩
  | false, .opening => ⟨.closed, none⟩
  | false, .opened =>
    if s.level sp (gateSwitch g) = .active then ⟨.closed, none⟩
    else ⟨.closing, some (s.now + (s.params.get sp).gateTravel)⟩
  | _, _ => s.gate sp g

/-- The Flow Computer's zero-track timer as the tracking condition stands: kept or started while it holds, else stopped (R33). -/
def tracked (f : Fc) (expiry : Nat) : Fc :=
  { f with
    zeroTimer :=
      if f.idleView = true ∧ f.coarseView = .active ∧ f.fineView = .active ∧ f.lineView = .live then
        some (f.zeroTimer.getD expiry)
      else none }

/-- The part after a spout has moved to a state with its three outputs commanded (R49, R51, R56, R83): the Spout Controller's
items as given, the terminals and the supervision as commanded, the block's views and the outputs that follow them, and the
Flow Computer told whether the spout is IDLE. -/
def movedTo (s : State) (sp : Spout) (c : Sc) (coarse fine aeration : Bool) : State :=
  { s with
    sc := s.sc.set sp c
    fc :=
      s.fc.set sp
        (tracked { s.fc.get sp with idleView := decide (c.state = .idle) }
          (s.now + (s.params.get sp).zeroTrack))
    iob :=
      Iob.recompute
        { s.iob with
          coarseOut := s.iob.coarseOut.set sp coarse
          fineOut := s.iob.fineOut.set sp fine
          aeration := s.iob.aeration.set sp aeration
          gates := s.iob.gates.set sp ⟨gateAfter s sp .coarse coarse, gateAfter s sp .fine fine⟩
          views :=
            { s.iob.views with
              active := s.iob.views.active.set sp c.state.isActive
              flowing := s.iob.views.flowing.set sp c.state.isFlowing } } }

/-- The grant of a spout handed back, and HOLD_ACK as it then stands (R142, R150). -/
def grantReturned (s : State) (sp : Spout) : State :=
  s.updFa fun f => { f with holders := f.holders.set sp false }

/-- A settle or an abort settle begins (R99, R123): outputs off, grant handed back, the deadline and the SETTLE timer. -/
def settling (s : State) (sp : Spout) (c : Sc) (st : SpoutState) : State :=
  grantReturned
    (movedTo s sp
      { c with
        state := st
        grantHeld := false
        stage := some ⟨.settle, s.now + (s.params.get sp).settle⟩
        deadline := some (s.now + (s.params.get sp).settleMax) }
      false false false)
    sp

/-- A lockout reason enters the set of a spout that did not hold it, with its event and its condition (R136). -/
def lockedFor (s : State) (sp : Spout) (r : LockoutReason) : State :=
  let c := s.sc.get sp
  if c.lockout.has r then s
  else
    (reported { s with sc := s.sc.set sp { c with lockout := c.lockout.add r } } (.spout sp)
        (.lockoutSet r (c.lockout.add r) c.state)).notice
      fun v => { v with lockout := v.lockout.set sp true }

/-- An OPEN window whose lane has no other active spout moves to WEIGHING when a spout leaves the active group (R167). -/
def laneLeftBy (s : State) (sp : Spout) : State :=
  let u := s.lwu.get sp.lane
  if u.window.state = .opened ∧ (s.sc.get (mate sp)).state.isActive = false then
    ({ s with
        lwu :=
          s.lwu.set sp.lane
            { u with
              window :=
                { u.window with
                  state := .weighing
                  timer := some ⟨.gross, s.now + u.params.grossTimeout * 1000⟩ } } } : State).notice
      fun v => { v with weighing := v.weighing.set sp.lane true }
  else s

/-- The end of a spout's order (R70, R71, R103, R125): its record as ended, the spout's most recently ended slot and
RESULT_WAITING, the event, and the spout in IDLE with its outputs off and its grant handed back. -/
def orderEnded (s : State) (sp : Spout) (i : Fin 16) (rec : SlotRec) (body : EventBody) : State :=
  let noted :=
    (reported
        { s with
          ot := { s.ot.setSlot i rec with lastEnded := s.ot.lastEnded.set sp (some i) }
          fc := s.fc.set sp { s.fc.get sp with active := none } }
        (.spout sp) body).notice
      fun v => { v with result := v.result.set sp true }
  laneLeftBy
    (grantReturned
      (movedTo noted sp
        { s.sc.get sp with
          state := .idle, active := none, grantHeld := false, stage := none, deadline := none }
        false false false)
      sp)
    sp

/-- The end of a spout's order by abort, with the reasons gathered (R70, R73). -/
def orderAborted (s : State) (sp : Spout) (i : Fin 16) (reasons : ReasonSet) : State :=
  let r := s.ot.slot i
  orderEnded { s with sc := s.sc.set sp { s.sc.get sp with reasons } } sp i
    { r with state := .aborted, reasons := some reasons, endTime := some s.msTime }
    (.orderAborted i reasons r.mass r.marks)

/-- The state after a request: the block's change, and the link with the reply (R180). -/
def replied (s t : State) (kind : Byte) (r : Reply) : State := { t with sl := answered s kind r }

/-- The queue of a spout's requests without it (R143). -/
def unrequested (s : State) (sp : Spout) : State :=
  s.updFa fun f => { f with requests := f.requests.filter (· ≠ sp) }

/-- The feed condition of the two station inputs (R144). -/
def conditionOf (feedHold airOk : Level) : FeedCond :=
  if feedHold = .unsettled ∨ airOk = .unsettled then .unknown
  else if feedHold = .active then (if airOk = .active then .hold else .holdAirFault)
  else if airOk = .active then .normal else .airFault

/-- A suspension (R132): outputs off, grant handed back, the cause, the suspension count, the SUSPEND timer, a new feed request
at the tail, and the notice to the lane's window (R166). -/
def suspendedBy (s : State) (sp : Spout) (cause : SuspendCause) : State :=
  let c := s.sc.get sp
  let u := s.lwu.get sp.lane
  let moved :=
    grantReturned
      (movedTo s sp
        { c with
          state := .suspended
          grantHeld := false
          cause := some cause
          stage := some ⟨.suspend, s.now + (s.params.get sp).suspend * 1000⟩ }
        false false false)
      sp
  let asked := moved.updFa fun f => { f with requests := f.requests ++ [sp] }
  { asked with
    ot :=
      match c.active with
      | none => s.ot
      | some i =>
        s.ot.setSlot i { s.ot.slot i with suspCount := min 255 ((s.ot.slot i).suspCount + 1) }
    lwu :=
      if u.window.state = .opened ∨ u.window.state = .weighing then
        s.lwu.set sp.lane
          { u with
            window :=
              { u.window with
                contrib :=
                  u.window.contrib.set sp.side
                    { u.window.contrib.get sp.side with suspended := true } } }
      else s.lwu }

/-- Whether the order of a spout has reached its fine threshold, and its coarse threshold (R108 to R112). -/
def reachedBy (s : State) (sp : Spout) (i : Fin 16) : Reached :=
  reached (s.ot.slot i) (s.fc.get sp) (s.params.get sp)

/-- The entry to SETTLE on reaching F, with M written as the fine cutoff mass (R69, R99). -/
def cutOff (s : State) (sp : Spout) (i : Fin 16) : State :=
  settling
    { s with ot := s.ot.setSlot i { s.ot.slot i with fineCutoff := some (s.ot.slot i).mass } } sp
    (s.sc.get sp) .settle

/-- What a sample report decides for the order of a spout (R96 to R98): at F the load settles, from COARSE and from FINE; at C a
load in COARSE goes to FINE, or is suspended while the feed condition is HOLD; else it runs on. -/
def decided (s : State) (sp : Spout) (i : Fin 16) : State :=
  let c := s.sc.get sp
  if (c.state = .coarse ∨ c.state = .fine) ∧ (reachedBy s sp i).fine = true then cutOff s sp i
  else if c.state = .coarse ∧ (reachedBy s sp i).coarse = true then
    if s.fa.condition = .hold then suspendedBy s sp .feedHold
    else movedTo s sp { c with state := .fine, stage := none } false true true
  else s

/-- A reply with a status and its contents. -/
def okReply (contents : List Byte) : Reply := ⟨.ok, contents⟩

/-- The refusals of a LOAD-ORDER field by its number (R64). -/
def orderFieldFails (f : OrderFields) : Nat → Prop
  | 2 => ∃ b ∈ f.tag, b.toNat < 0x20 ∨ 0x7E < b.toNat
  | 3 => f.compartment.toNat < 1 ∨ 8 < f.compartment.toNat
  | 4 => f.product.toNat < 1 ∨ 15 < f.product.toNat
  | 5 => f.target.toNat < 1000 ∨ 80000000 < f.target.toNat
  | 6 => 1 < f.overTol.presence.toNat ∨ (f.overTol.presence = 1 ∧ 1000000 < f.overTol.value.toNat)
  | 7 => 1 < f.underTol.presence.toNat ∨ (f.underTol.presence = 1 ∧ 1000000 < f.underTol.value.toNat)
  | 8 => 1 < f.dribble.presence.toNat ∨ (f.dribble.presence = 1 ∧ 2000000 < f.dribble.value.toNat)
  | _ => False

/-- An optional field of an order as the record holds it (R64, R191). -/
def optionalOf (f : OptField) : Option Nat := if f.presence = 1 then some f.value.toNat else none

/-- The record of an order just placed: its eight fields, and every progress field as for a FREE slot (R61, R65). -/
def placedRecord (sp : Spout) (f : OrderFields) : SlotRec :=
  { state := .queued, tag := f.tag, compartment := f.compartment.toNat, spout := some sp
    product := f.product.toNat, target := f.target.toNat, overTol := optionalOf f.overTol
    underTol := optionalOf f.underTol, dribble := optionalOf f.dribble, mass := 0, cls := none
    reasons := none, subCount := 0, overCount := 0, suspCount := 0, fineCutoff := none
    startTime := none, endTime := none }

/-- The five permissives of START (R86). -/
def permissivesHold (s : State) (sp : Spout) : Prop :=
  s.level sp .spoutDown = .active ∧ s.level sp .vehicle = .active ∧ s.level sp .level = .inactive ∧
    s.level sp .coarseClosed = .active ∧ s.level sp .fineClosed = .active

/-- The number of queued INPUT_CHANGE events that name a spout (R87). -/
def inputChangesOf (s : State) (sp : Spout) : Nat :=
  (s.rq.events.filter fun e =>
    match e.source, e.body with
    | .spout q, .inputChange _ _ => decide (q = sp)
    | _, _ => false).length

/-- The acceptance of START up to its entry to TARE or WAIT_FEED (R67, R88): the head slot is ACTIVE with M 0 and its start
time, it leaves the queue, and the Spout Controller and the Flow Computer hold it. -/
def started (s : State) (sp : Spout) (i : Fin 16) (rest : List (Fin 16)) : State :=
  { s with
    ot :=
      { s.ot.setSlot i
          { s.ot.slot i with state := .active, mass := 0, startTime := some s.msTime } with
        queues := s.ot.queues.set sp rest }
    fc := s.fc.set sp { s.fc.get sp with active := some i } }

/-- A change of spout state that commands no output (R83): the Spout Controller's items as given, the views and the outputs
that follow them, and the Flow Computer told that the spout is not IDLE. -/
def enters (s : State) (sp : Spout) (c : Sc) : State :=
  { s with
    sc := s.sc.set sp c
    fc :=
      s.fc.set sp
        (tracked { s.fc.get sp with idleView := decide (c.state = .idle) }
          (s.now + (s.params.get sp).zeroTrack))
    iob :=
      Iob.recompute
        { s.iob with
          views :=
            { s.iob.views with
              active := s.iob.views.active.set sp c.state.isActive
              flowing := s.iob.views.flowing.set sp c.state.isFlowing } } }

/-- A claim withdrawn from the lane (R165): a TARING window left with no claim closes. -/
def claimWithdrawn (s : State) (sp : Spout) : State :=
  let u := s.lwu.get sp.lane
  let claims := u.window.claims.set sp.side false
  if u.window.state = .taring ∧ claims.lower = false ∧ claims.upper = false then
    ({ s with
        lwu :=
          s.lwu.set sp.lane
            { u with
              window := { u.window with claims := claims, state := .closed, timer := none } } } :
        State).notice
      fun v => { v with weighing := v.weighing.set sp.lane false }
  else { s with lwu := s.lwu.set sp.lane { u with window := { u.window with claims := claims } } }

/-- What the end of PRIME decides for the order of a spout (R95): at F the load settles, at C the fine gate opens alone, else
both gates open. -/
def primed (s : State) (sp : Spout) (i : Fin 16) : State :=
  let c := { s.sc.get sp with stage := none }
  if (reachedBy s sp i).fine = true then cutOff s sp i
  else if (reachedBy s sp i).coarse = true then movedTo s sp { c with state := .fine } false true true
  else movedTo s sp { c with state := .coarse } true true true

/-- A grant taken in WAIT_FEED or SUSPENDED (R92, R94, R133): the grant is held, the wait's timer stops and the suspension
cause goes. An order at F settles, which hands the grant back unused; else the spout aerates with its gates closed until
PRIME ends, at once when the prime time is 0. -/
def granted (s : State) (sp : Spout) : State :=
  let c := { s.sc.get sp with grantHeld := true, stage := none, cause := none }
  let held := { s with sc := s.sc.set sp c }
  let prime := (s.params.get sp).prime
  let stage := if prime = 0 then none else some (⟨.prime, s.now + prime⟩ : StageTimer)
  let aerates := movedTo held sp { c with state := .aerate, stage } false false true
  match c.active with
  | none => aerates
  | some i =>
    if (reachedBy held sp i).fine = true then cutOff held sp i
    else if prime = 0 then primed aerates sp i
    else aerates

/-- Grants along a list of waiting spouts, its head first (R141, R149): while the feed condition is NORMAL and fewer than G
spouts hold grants, the head leaves the list, holds the grant and takes it. -/
def served : List Spout → State → State
  | [], s => s
  | sp :: rest, s =>
    if s.fa.condition = .normal ∧ (Spout.all.filter s.fa.holders.get).length < s.fa.g then
      served rest
        (granted (s.updFa fun f => { f with requests := rest, holders := f.holders.set sp true }) sp)
    else s

/-- The grants that are due at the end of a step (R141). -/
def grantsGiven (s : State) : State := served s.fa.requests s

/-- The lockout reason that an abort reason enters when its cause is taken in a state (R135): GATE_FAULT in every state,
SPOUT_LIFTED, VEHICLE_LEFT and SENSOR_LOST from AERATE onward, GATE_LEAK at a settle deadline, the others in none. -/
def lockoutFor (r : AbortReason) (st : SpoutState) : Option LockoutReason :=
  if r = .gateFault then some .gateFault
  else if r = .gateLeak then (if st = .settle ∨ st = .aborting then some .gateLeak else none)
  else if st = .idle ∨ st = .tare ∨ st = .waitFeed then none
  else if r = .spoutLifted then some .spoutLifted
  else if r = .vehicleLeft then some .vehicleLeft
  else if r = .sensorLost then some .sensorLost
  else none

/-- The lockout set as an abort cause leaves it (R135, R136). -/
def causeLocked (s : State) (sp : Spout) (r : AbortReason) : State :=
  match lockoutFor r (s.sc.get sp).state with
  | none => s
  | some k => lockedFor s sp k

/-- An abort cause at a spout, by the state in which it is taken (R120, R122 to R124, R126, R127). The lockout set takes the
reason first where R135 has it so, and the gathered reasons take it in every active state. In TARE the claim is withdrawn
and in WAIT_FEED the request, and the order ends ABORTED at once; in AERATE, COARSE, FINE and SUSPENDED the abort settle
begins; a settle becomes an abort settle with the timer and deadline it has; in ABORTING nothing more. -/
def causeTaken (s : State) (sp : Spout) (r : AbortReason) : State :=
  let c := s.sc.get sp
  let reasons := c.reasons.add r
  let locked := causeLocked s sp r
  let gathered := { locked.sc.get sp with reasons }
  let ended := fun (t : State) =>
    match c.active with
    | none => t
    | some i => orderAborted t sp i reasons
  match c.state with
  | .idle => locked
  | .tare => ended (claimWithdrawn locked sp)
  | .waitFeed => ended (unrequested locked sp)
  | .aerate => settling locked sp gathered .aborting
  | .coarse => settling locked sp gathered .aborting
  | .fine => settling locked sp gathered .aborting
  | .suspended => settling (unrequested locked sp) sp { gathered with cause := none } .aborting
  | .settle => enters locked sp { gathered with state := .aborting }
  | .aborting => { locked with sc := locked.sc.set sp gathered }

/-- One substitution at a LIVE line (R9, R24, R25, R96 to R98): both counts of the receiver, the item of q_filt, and the decision
on it in COARSE and FINE. -/
def substituted (s : State) (sp : Spout) : State :=
  let counted :=
    s.updSlr sp fun r => { r with subRun := r.subRun + 1, subCount := min 65535 (r.subCount + 1) }
  let t := afterItems counted sp [(s.fc.get sp).qFilt] 1 0
  match (s.sc.get sp).active with
  | none => t
  | some i => decided t sp i

/-- A line goes LOST (R11, R30): the receiver's runs and its hold list are emptied, the Flow Computer empties its window and its
history and stops zero tracking, the Spout Controller takes SENSOR_LOST and sees the line LOST, and the event carries the two
counts. -/
def lineLostBy (s : State) (sp : Spout) : State :=
  let r := s.slr.get sp
  let down :=
    (s.updSlr sp fun r => { r with line := .lost, subRun := 0, goodRun := 0, hold := [] }).updFc sp
      fun f => { f with lineView := .lost, window := [], qFilt := 0, history := [], zeroTimer := none }
  reported ((causeTaken down sp .sensorLost).updSc sp fun c => { c with lineView := .lost }) (.spout sp)
    (.sensorLost r.badCheck r.subCount)

/-- An output's source as CONFIG-STATION and CONFIG-SPOUT store it (R57, R183): an unknown source is MANUAL, a spout argument
above 3 is spout D, a lane argument other than 1 and 2 is lane 2, and the argument of MANUAL and FEED_HELD is kept. -/
def storedAs (f : OutputField) : OutputField :=
  { source := if f.source.toNat ≤ 6 then f.source else 0
    arg :=
      if 1 ≤ f.source.toNat ∧ f.source.toNat ≤ 4 then (if f.arg.toNat ≤ 3 then f.arg else 3)
      else if f.source = 5 then (if f.arg = 1 then 1 else 2)
      else f.arg
    invert := if f.invert = 0 then 0 else 1 }

/-- The source names in the order of their codes (R191). -/
def sourceOf (code : Byte) : SourceKind :=
  if code = 1 then .spoutActive else if code = 2 then .spoutFlowing else if code = 3 then .spoutLockout
  else if code = 4 then .resultWaiting else if code = 5 then .laneWeighing
  else if code = 6 then .feedHeld else .manual

/-- A configurable output with a new source, its terminal computed at once from the block's view of it (R57). -/
def resourced (b : Iob) (o : ConfigOut) (f : OutputField) : ConfigOut :=
  let g := storedAs f
  let cfg : OutputCfg := ⟨sourceOf g.source, g.arg, decide (g.invert = 1)⟩
  { o with cfg, terminal := b.views.holds cfg o.manual != cfg.invert }

/-- A field stored other than as sent: the source or its argument (R57, R183). -/
def sourceClamped (f : OutputField) : Bool :=
  decide ((storedAs f).source ≠ f.source) || decide ((storedAs f).arg ≠ f.arg)

/-- OK, or OK with CLAMPED (R183 item 5). -/
def okOrClamped (clamped : Bool) (contents : List Byte) : Reply :=
  ⟨if clamped then .okClamped else .ok, contents⟩

/-! ## What the read requests answer (R186, R191) -/

/-- A value in n bytes, the most significant first (R176). -/
def field (n v : Nat) : List Byte := (List.range n).map fun k => byteOf (v / 256 ^ (n - 1 - k))

/-- A signed value in n bytes, in two's complement (R176, R191; log entry 30). -/
def signedField (n : Nat) (v : Int) : List Byte := field n (v % ((256 ^ n : Nat) : Int)).toNat

/-- Flags from bit 0 on, as a number (R191). -/
def flags : List Bool → Nat
  | [] => 0
  | b :: rest => (if b then 1 else 0) + 2 * flags rest

/-- The code of an item whose codes count from a first one in the order of a list (R191). -/
def codeFrom {α : Type} [DecidableEq α] (first : Nat) (order : List α) (x : α) : Byte :=
  byteOf (first + order.idxOf x)

/-- A slot or spout reference, 0xFF when it is absent (R186). -/
def reference (r : Option Byte) : Byte := r.getD 0xFF

/-- A list in four places, its head first; a place after its end is an absent reference (R186; log entry 15). -/
def places (refs : List Byte) : List Byte := refs ++ List.replicate (4 - refs.length) 0xFF

/-- The time left to an expiry, 0 when there is none (R186). -/
def timeLeft (s : State) (expiry : Option Nat) : List Byte :=
  field 4 (match expiry with | none => 0 | some t => t - s.now)

/-- An input byte: the level in bits 0 and 1, the change latch in bit 7 (R191). -/
def inputByte (v : Input) : Byte :=
  byteOf
    ((match v.filtered with | .inactive => 0 | .active => 1 | .unsettled => 2) +
      if v.latch then 128 else 0)

/-- The abort reasons in the order of their bits (R191). -/
def reasonFlags (t : ReasonSet) : Nat :=
  flags
    [t.hostStop, t.hostWithdraw, t.spoutLifted, t.vehicleLeft, t.levelProbe, t.gateFault, t.gateLeak, t.sensorLost,
      t.feedTimeout, t.suspendTimeout, t.restart]

/-- The READ-STATION reply (R151, R186, R191). -/
def stationReply (s : State) : List Byte :=
  let m := s.rq.mask
  [byteOf s.fa.g, codeFrom 0 [.unknown, .normal, .hold, .airFault, .holdAirFault] s.fa.condition,
    byteOf (flags (Spout.all.map s.fa.holders.get)), byteOf s.fa.requests.length] ++
  places (s.fa.requests.map spoutCode) ++
  [byteOf (if s.fa.feedHoldView = .active ∧ ∀ sp ∈ Spout.all, s.fa.holders.get sp = false then 1 else 0),
    inputByte s.iob.feedHold, inputByte s.iob.airOk, byteOf (if s.cs.store = .idle then 0 else 1)] ++
  field 2 (flags [m.input, m.order, m.lockout, m.sensor, m.zero, m.feed, m.weigh, m.store, m.restart]) ++
  [byteOf s.rq.events.length, byteOf s.rq.lost] ++
  field 2 s.sl.broken ++ field 2 s.sl.lengthErr ++ field 2 s.sl.crcErr ++ field 2 s.sl.dropped ++
  [byteOf s.sl.address, byteOf s.sl.rate, byteOf s.sl.turnaround, byteOf s.iob.debounce] ++
  field 4 s.msTime

/-- The READ-SPOUT reply (R16, R38, R47, R53, R78, R104, R186, R191): the deadline is shown in SETTLE and ABORTING, the cause
in SUSPENDED, the gathered reasons in ABORTING. -/
def spoutReply (s : State) (sp : Spout) : List Byte :=
  let c := s.sc.get sp
  let f := s.fc.get sp
  let r := s.slr.get sp
  let v := s.iob.inputs.get sp
  let t := c.lockout
  let gates := fun (g : GateSup) => codeFrom 0 [.closed, .opening, .opened, .closing, .unproven] g.state
  [codeFrom 0 [.idle, .tare, .waitFeed, .aerate, .coarse, .fine, .settle, .suspended, .aborting] c.state,
    byteOf (flags [c.grantHeld, decide (r.line = .live), f.lastCandidate.isSome]),
    match c.stage with
    | none => 0
    | some x => codeFrom 1 [.prime, .feedWait, .settle, .suspend] x.name] ++
  timeLeft s (c.stage.map (·.expiry)) ++
  timeLeft s (if c.state = .settle ∨ c.state = .aborting then c.deadline else none) ++
  [byteOf (flags [t.spoutLifted, t.vehicleLeft, t.gateFault, t.gateLeak, t.sensorLost]),
    match c.cause with
    | none => 0
    | some x => if c.state = .suspended then codeFrom 1 [.feedHold, .airFault] x else 0] ++
  field 2 (if c.state = .aborting then reasonFlags c.reasons else 0) ++
  [reference (c.active.map slotCode), reference ((s.ot.lastEnded.get sp).map slotCode),
    byteOf (s.ot.queues.get sp).length] ++
  places ((s.ot.queues.get sp).map slotCode) ++
  [inputByte v.spoutDown, inputByte v.vehicle, inputByte v.level, inputByte v.coarseClosed, inputByte v.fineClosed,
    gates (s.gate sp .coarse), gates (s.gate sp .fine)] ++
  field 4 f.span ++ field 2 f.zero ++ signedField 4 f.corr ++ field 4 f.qFilt ++ [byteOf f.window.length] ++
  field 2 (f.lastCandidate.getD 0) ++ field 4 f.stray ++ field 2 r.badCheck ++ field 2 r.subCount

/-- The two contributions of a window or a result, the lower spout first (R191). -/
def contributionFields (c : PerSide Contribution) : List Byte :=
  field 4 c.lower.grams ++ field 4 c.upper.grams ++ field 2 c.lower.subCount ++ field 2 c.upper.subCount ++
  field 2 c.lower.overCount ++ field 2 c.upper.overCount ++ [byteOf (flags [c.lower.suspended, c.upper.suspended])]

/-- The READ-LANE reply (R172, R186, R191): the line, the window, the last result (log entry 15 says what one never made is) and
the parameters. -/
def laneReply (s : State) (l : Lane) : List Byte :=
  let u := s.lwu.get l
  let w := u.window
  let p := u.params
  [byteOf (if u.line = .live then 1 else 0)] ++ field 2 u.badCheck ++ [byteOf u.stability] ++
  (match u.lastGross with
    | none => [0, 0, 0, 0]
    | some x => byteOf (flags [true, x.motion, x.overload]) :: field 3 x.gross) ++
  [codeFrom 0 [.closed, .taring, .opened, .weighing] w.state] ++ field 2 w.number ++
  [byteOf (flags [w.tare.isSome, w.gross.isSome, w.bridgeLost])] ++ field 3 (w.tare.getD 0) ++
  field 3 (w.gross.getD 0) ++
  [byteOf (flags (Spout.all.map fun sp => decide (sp.lane = l) && w.claims.get sp.side)),
    match w.timer with
    | none => 0
    | some x => codeFrom 1 [.tare, .gross] x.name] ++
  timeLeft s (w.timer.map (·.expiry)) ++ contributionFields w.contrib ++
  (match u.lastResult with
    | none => List.replicate 37 0 ++ [0xFF, 0, 0, 0, 0]
    | some x =>
      [byteOf (flags [true, x.tare.isSome, x.gross.isSome, x.nb.isSome, x.bridgeLost]),
        codeFrom 1
          [.nothingLoaded, .noTare, .noGross, .weighbridgeLost, .mixed, .belowMinimum, .degraded, .outOfBand,
            .claimPending, .corrected, .abandoned]
          x.outcome] ++
      field 2 x.number ++ field 3 (x.tare.getD 0) ++ field 3 (x.gross.getD 0) ++ field 5 x.nm ++
      signedField 5 (x.nb.getD 0) ++ contributionFields x.contrib ++ [reference (x.corrected.map spoutCode)] ++
      field 4 (x.newSpan.getD 0)) ++
  [byteOf (if p.enable then 1 else 0), byteOf p.nStable, byteOf p.tareTimeout, byteOf p.grossTimeout,
    byteOf p.acceptBand, byteOf p.alpha] ++ field 4 p.nMin

/-- The READ-ORDER reply (R77, R186, R191). -/
def orderReply (s : State) (i : Fin 16) : List Byte :=
  let r := s.ot.slot i
  [byteOf i, codeFrom 0 [.free, .queued, .active, .done, .aborted] r.state] ++ r.tag ++
  [byteOf r.compartment, reference (r.spout.map spoutCode), byteOf r.product] ++ field 4 r.target ++
  [byteOf
      (flags
        [r.overTol.isSome, r.underTol.isSome, r.dribble.isSome, r.cls.isSome, r.reasons.isSome, r.fineCutoff.isSome,
          r.startTime.isSome, r.endTime.isSome])] ++
  field 4 (r.overTol.getD 0) ++ field 4 (r.underTol.getD 0) ++ field 4 (r.dribble.getD 0) ++ field 4 r.mass ++
  [match r.cls with
    | none => 0
    | some x => codeFrom 1 [.inTol, .overfill, .underfill] x] ++
  field 2 ((r.reasons.map reasonFlags).getD 0) ++ field 2 r.subCount ++ field 2 r.overCount ++ [byteOf r.suspCount] ++
  field 4 (r.fineCutoff.getD 0) ++ field 4 (r.startTime.getD 0) ++ field 4 (r.endTime.getD 0)

/-! ## Weighing windows and restarts -/

/-- The fields of a weighbridge frame that precede its check (R155). -/
def bridgeReadingOf (h g2 g1 g0 : Byte) : BridgeReading :=
  { gross := 65536 * g2.toNat + 256 * g1.toNat + g0.toNat
    motion := h.getLsbD 4
    overload := h.getLsbD 3 }

/-- The stability count that a reading leaves (R160). -/
def stabilityAfter (u : Lwu) (r : BridgeReading) : Nat :=
  if r.motion = false ∧ r.overload = false then min 255 (u.stability + 1) else 0

/-- Whether a good frame leaves the line LIVE: it was LIVE, or the frame is the third step of a restore run (R159). -/
def liveAfter (u : Lwu) : Bool := decide (u.line = .live) || decide (2 ≤ u.restoreRun)

/-- Whether a good frame is a stable reading (R160). -/
def stableBy (u : Lwu) (r : BridgeReading) : Bool :=
  decide (r.motion = false ∧ r.overload = false) && decide (u.params.nStable ≤ stabilityAfter u r) &&
    liveAfter u

/-- The part after a good weighbridge frame, before a stable reading is used (R158 to R160): the framing and the loss timer,
one step of a restore run in LOST, the last gross and the stability count, and WEIGHBRIDGE_RESTORED when the third step
restores a line that was acquired before. -/
def bridgeHeard (s : State) (l : Lane) (r : BridgeReading) : State :=
  let u := s.lwu.get l
  let restores := decide (u.line = .lost) && decide (2 ≤ u.restoreRun)
  reportedIf (restores && u.firstAcq)
    { s with
      lwu :=
        s.lwu.set l
          { u with
            framing := .hunt
            lossTimer := some (s.now + 1000)
            line := if restores then .live else u.line
            restoreRun := if u.line = .live then u.restoreRun else if restores then 0 else u.restoreRun + 1
            firstAcq := u.firstAcq || restores
            lastGross := some r
            stability := stabilityAfter u r } }
    (.lane l) (.weighbridgeRestored u.badCheck)

/-- A lane with a window changed, and its LANE_WEIGHING condition handed over (R171). -/
def windowMoved (s : State) (l : Lane) (w : Window) : State :=
  ({ s with lwu := s.lwu.set l { s.lwu.get l with window := w } } : State).notice fun v =>
    { v with weighing := v.weighing.set l (decide (w.state = .taring ∨ w.state = .weighing)) }

/-- A spout in TARE whose claim is released: WAIT_FEED, its timer and its feed request (R90, R91). -/
def claimReleased (s : State) (sp : Spout) : State :=
  (enters s sp
      { s.sc.get sp with
        state := .waitFeed
        stage := some ⟨.feedWait, s.now + (s.params.get sp).feedWait * 1000⟩ }).updFa
    fun f => { f with requests := f.requests ++ [sp] }

/-- The spouts of a set of claims released, the lower spout first (R164). -/
def claimsReleased (s : State) (l : Lane) (claims : PerSide Bool) : State :=
  let t := if claims.lower then claimReleased s (l.spout .lower) else s
  if claims.upper then claimReleased t (l.spout .upper) else t

/-- The metered mass of a window (R168). -/
def metered (w : Window) : Nat := w.contrib.lower.grams + w.contrib.upper.grams

/-- The weighbridge net mass of a window, present when tare and gross are (R168). -/
def netMass (w : Window) : Option Int :=
  match w.tare, w.gross with
  | some t, some g => some (1000 * (g : Int) - 1000 * t)
  | _, _ => none

/-- The tests of R168 in their order: the first that holds is the outcome. -/
def outcomeTests (w : Window) (p : LaneParams) : List (Bool × WeighOutcome) :=
  let marked := fun (c : Contribution) => decide (c.subCount ≠ 0 ∨ c.overCount ≠ 0 ∨ c.suspended = true)
  [ (decide (metered w = 0), .nothingLoaded)
  , (decide (w.tare = none), .noTare)
  , (decide (w.gross = none), .noGross)
  , (w.bridgeLost, .weighbridgeLost)
  , (decide
        (metered w / 100 < w.contrib.lower.grams ∧ metered w / 100 < w.contrib.upper.grams), .mixed)
  , (decide (metered w < p.nMin), .belowMinimum)
  , (marked w.contrib.lower || marked w.contrib.upper, .degraded)
  , (decide (∃ nb ∈ netMass w, metered w * p.acceptBand < (nb - metered w).natAbs * 1000), .outOfBand)
  , (w.claims.lower || w.claims.upper, .claimPending) ]

/-- The outcome of a closing window (R168). -/
def outcomeOf (w : Window) (p : LaneParams) : WeighOutcome :=
  (((outcomeTests w p).find? (·.1)).map (·.2)).getD .corrected

/-- A span corrected by a window (R169, R37): S × |Nb − Nm| × α over 4 × Nm, half up, with the sign of Nb − Nm, added to S and
clamped to 1 to 1,048,575. -/
def correctedSpan (span nm alpha : Nat) (nb : Int) : Nat :=
  let step := (span * (nb - nm).natAbs * alpha + 2 * nm) / (4 * nm)
  if (nm : Int) ≤ nb then min 1048575 (max 1 (span + step)) else max 1 (min 1048575 (span - step))

/-- The spout that the correction of a window goes to (R168). -/
def contributorOf (w : Window) (l : Lane) : Spout :=
  if metered w / 100 < w.contrib.lower.grams then l.spout .lower else l.spout .upper

/-- The part after a WEIGHING window has been judged with its gross or without one: the record with the gross, the result
record as the lane's last result, the corrected span at the single contributor when the outcome is CORRECTED, and WEIGH_RESULT
(R168 to R170). The window's state is left to what follows. -/
def windowJudged (s : State) (l : Lane) (gross : Option Nat) : State :=
  let u := s.lwu.get l
  let w : Window := { u.window with gross := gross, timer := none }
  let o := outcomeOf w u.params
  let sp := contributorOf w l
  let f := s.fc.get sp
  let span := correctedSpan f.span (metered w) u.params.alpha ((netMass w).getD 0)
  let made := decide (o = .corrected)
  reported
    { s with
      fc := if made then s.fc.set sp { f with span := span } else s.fc
      lwu :=
        s.lwu.set l
          { u with
            window := w
            lastResult :=
              some
                { number := w.number, tare := w.tare, gross := gross, nm := metered w, nb := netMass w
                  contrib := w.contrib, bridgeLost := w.bridgeLost, outcome := o
                  corrected := if made then some sp else none
                  newSpan := if made then some span else none } } }
    (.lane l)
    (.weighResult w.number o (if made then some sp else none) (if made then some span else none))

/-- A terminal's level as taken: asserted behind the filter, or held asserted since a cold reset and not yet seen released
(R195, R196; log entries 20 and 32). -/
def asserted (t : Terminal) : Bool := t.filtered || !t.seen

/-- A terminal after its filter's time: the raw level is taken, and an assertion begins its 10 ms (R195, R196). -/
def filteredAt (t : Terminal) (now : Nat) : Terminal :=
  { raw := t.raw, filtered := t.raw, filter := none
    assertion := if t.raw then some (now + 10) else none, seen := true }

/-- The part as a reset begins (R194, R195): every output terminal off, a write cut off with its check word failing, and the
WARM filter at rest. -/
def resetBegun (s : State) (cause : ResetCause) : State :=
  { s with
    rst := { s.rst with held := some cause, warm := { s.rst.warm with filter := none, assertion := none } }
    iob :=
      { s.iob with
        coarseOut := .fill false, fineOut := .fill false, aeration := .fill false
        holdAck := false, attention := false
        beacon := s.iob.beacon.map fun o => { o with terminal := false }
        aux := s.iob.aux.map fun o => { o with terminal := false } }
    cs :=
      if s.cs.store = .idle then s.cs
      else { image := { s.cs.image with check := .failing }, store := .idle } }

end Sys2Proof.Safety
end

