-- ==== Sys2Proof/Certificates/Slice0/Obligations.lean ====
section
/-! DEFINITION. The statements for the provers. -/

open Sys2Proof Sys2Proof.Machine Sys2Proof.Safety

/-! ## The machine as a whole -/

/-- A step takes the command at the front of the queue and is its meaning on the state with the queue's rest. -/
def Obligations.StepRunsTheFrontCommand : Prop :=
  ∀ (s : State) (c : Instr) (rest : List Instr),
    s.pending = c :: rest → step s = exec c { s with pending := rest }

/-- Every command completes in every state, with no fault and no refusal, and leaves the queue of waiting commands as it was.
The spec gives every command an effect; that it completes in EVERY state is the model's choice: for the event of a state that
excludes it (log entry 9), while a reset is held (log entry 24), and in states that no run reaches (log entry 27). -/
def Obligations.EveryCommandCompletes : Prop :=
  ∀ (c : Instr) (s : State), ∃ t, exec c s = .next t ∧ t.pending = s.pending

/-- The model's choice (log entry 4): on an empty queue the step is the command of a running timer whose expiry has come
and than which none expires earlier, and one millisecond of time when no running timer's expiry has come. -/
def Obligations.EmptyQueueRunsTheClock : Prop :=
  ∀ s : State, s.pending = [] →
    ((∀ d ∈ s.timers, s.now < d.1) → step s = .next { s with now := s.now + 1 }) ∧
    ((∃ d ∈ s.timers, d.1 ≤ s.now) →
      ∃ d ∈ s.timers, d.1 ≤ s.now ∧ (∀ e ∈ s.timers, d.1 ≤ e.1) ∧ step s = exec d.2 s)

/-- While a reset is held, no line character is received, no request is taken and no timer of a block runs: a command that
is not of the supply, of the RESET terminal or a raw level changes nothing. A raw level is kept and settles nothing
(the model's reading: log entry 24). -/
def Obligations.HeldResetTakesNothing : Prop :=
  ∀ (c : Instr) (s : State), ¬ Running s →
    (actsInReset c = false → exec c s = .next s) ∧
    (∀ i active, c = .inputRawChange i active →
      exec c s = .next (s.setInput i { s.input i with raw := active })) ∧
    (∀ asserted, c = .warmTerminalChange asserted →
      exec c s = .next (s.updWarm fun t => { t with raw := asserted }))

/-! ## Requests and their frames -/

/-- The kind and body of a well-formed request decode to that request, and the body has the size of its kind; and what decodes to
a request is that well-formed request's only encoding: no bit of a body is dropped. -/
def Obligations.DecodeAndEncodeAgree : Prop :=
  ∀ (i : Instr) (kind : Byte) (body : List Byte),
    (i.wf = true → encodeRequest i = some (kind, body) →
      decodeRequest kind body = some i ∧ bodySize kind = some body.length) ∧
    (decodeRequest kind body = some i → encodeRequest i = some (kind, body) ∧ i.wf = true)

/-- The bytes of a request's frame, received one after another by a part that is addressed by it, are the request: they leave
exactly what the request's own meaning leaves. A reply that still waits is dropped by the frame's start byte;
an OK to RESTART, whose drop restarts the part, is left to RepliesWaitAndGoOut. That the request command stands for
its frame is the model's choice (log entry 11). -/
def Obligations.RequestFrameIsItsRequest : Prop :=
  ∀ (s : State) (i : Instr) (kind : Byte) (body : List Byte),
    Running s → s.sl.rx = .listen →
    (s.sl.tx = .idle ∨ ∃ p t, s.sl.tx = .waiting p t ∧ (p.kind ≠ 0x13 ∨ p.reply.status ≠ .ok)) →
    1 ≤ s.sl.address → s.sl.address ≤ 31 →
    i.wf = true → encodeRequest i = some (kind, body) →
      runAll ((requestFrame s.sl.address kind body).map .stationByteArrival) s = exec i s

/-- R178: the tests of a complete frame, in order. The last byte of a frame arrives; the frame then holds address, kind,
length, body and CRC. The link returns to LISTEN in every case. A frame with a wrong CRC is counted; one for another address
or with a reply's kind is ignored; an unknown kind is answered UNKNOWN_KIND, a wrong length BAD_LENGTH with the kind's size;
any other frame is dispatched as the request it spells. -/
def Obligations.CompleteFramesAreTested : Prop :=
  ∀ (s : State) (a kind : Byte) (body : List Byte) (crc : BitVec 16) (gap : Nat),
    let covered := [a, kind, byteOf body.length] ++ body
    let heard : State := { s with sl := { s.sl with rx := .listen } }
    let outcome :=
      exec (.stationByteArrival (crc.extractLsb' 0 8)) s
    Running s → s.sl.tx = .idle → body.length ≤ 120 →
    s.sl.rx = .frame (covered ++ [crc.extractLsb' 8 8]) gap →
      (crc16 covered ≠ crc →
        outcome =
          .next { heard with sl := { heard.sl with crcErr := min 65535 (s.sl.crcErr + 1) } }) ∧
      (crc16 covered = crc → a.toNat ≠ s.sl.address → outcome = .next heard) ∧
      (crc16 covered = crc → a.toNat = s.sl.address → 0x80 ≤ kind.toNat → outcome = .next heard) ∧
      (crc16 covered = crc → a.toNat = s.sl.address → kind.toNat < 0x80 →
        (kind.toNat < 0x01 ∨ 0x13 < kind.toNat) →
          outcome = .next (answeredOnly s kind ⟨.unknownKind, []⟩)) ∧
      (crc16 covered = crc → a.toNat = s.sl.address → ∀ n, bodySize kind = some n →
        body.length ≠ n → outcome = .next (answeredOnly s kind ⟨.badLength, [byteOf n]⟩)) ∧
      (crc16 covered = crc → a.toNat = s.sl.address → ∀ i, decodeRequest kind body = some i →
        outcome = exec i heard)

/-- The frame of bytes on the station line, byte by byte: a start byte in LISTEN opens a frame, any other byte there is
discarded; a byte in FRAME is appended and restarts the 5 ms gap timer until the frame is complete; a length above 120 is
counted and discards the frame; a character error or the gap's expiry discards it and is counted, and does nothing in
LISTEN; and no character is received while a reply is being sent. That a gap
expiry in LISTEN, where R177 runs no timer, changes nothing is the model's choice (log entry 9). -/
def Obligations.StationLineFindsFrames : Prop :=
  ∀ (s : State) (b : Byte), Running s →
    (s.sl.tx = .idle → s.sl.rx = .listen →
      exec (.stationByteArrival b) s =
        .next { s with sl := { s.sl with rx := if b = 0xA5 then .frame [] (s.now + 5) else .listen } } ∧
      exec .stationCharacterError s = .next s ∧ exec .stationGapExpiry s = .next s) ∧
    (∀ p frame, s.sl.tx = .sending p frame →
      exec (.stationByteArrival b) s = .next s ∧ exec .stationCharacterError s = .next s) ∧
    (∀ bytes gap, s.sl.tx = .idle → s.sl.rx = .frame bytes gap →
      (bytes.length < 2 ∨
        (2 ≤ bytes.length ∧ (byteAt 2 (bytes ++ [b])).toNat ≤ 120 ∧
          bytes.length + 1 < 3 + (byteAt 2 (bytes ++ [b])).toNat + 2) →
        exec (.stationByteArrival b) s =
          .next { s with sl := { s.sl with rx := .frame (bytes ++ [b]) (s.now + 5) } }) ∧
      (bytes.length = 2 → 120 < b.toNat →
        exec (.stationByteArrival b) s =
          .next
            { s with
              sl := { s.sl with rx := .listen, lengthErr := min 65535 (s.sl.lengthErr + 1) } }) ∧
      exec .stationCharacterError s =
        .next
          { s with sl := { s.sl with rx := .listen, broken := min 65535 (s.sl.broken + 1) } } ∧
      exec .stationGapExpiry s =
        .next
          { s with
            now := max s.now gap
            sl := { s.sl with rx := .listen, broken := min 65535 (s.sl.broken + 1) } })

/-- A reply waits for its turnaround, is sent as a frame that carries the station address, the kind with its top bit set, the
length, the status and the contents, and is then forgotten. A start byte while it waits drops it, is counted, and opens a
frame; other bytes and a character error leave it waiting. An OK to RESTART that has been sent makes the warm restart; so does a
dropped one, before the start byte is taken. Any other reply makes none, a refused RESTART's among them. -/
def Obligations.RepliesWaitAndGoOut : Prop :=
  ∀ (s : State) (p : PendingReply) (t : Nat), Running s →
    (s.sl.tx = .waiting p t →
      exec .turnaroundExpiry s =
        .next
          { s with
            now := max s.now t
            sl :=
              { s.sl with
                tx :=
                  .sending p
                    (framed
                      ([byteOf s.sl.address, p.kind ||| 0x80, byteOf (p.reply.contents.length + 1),
                        p.reply.status.code] ++ p.reply.contents)) } } ∧
      (s.sl.rx = .listen →
        (∀ b : Byte, b ≠ 0xA5 → exec (.stationByteArrival b) s = .next s) ∧
          exec .stationCharacterError s = .next s) ∧
      (s.sl.rx = .listen →
        let dropped : State :=
          { s with sl := { s.sl with tx := .idle, dropped := min 65535 (s.sl.dropped + 1) } }
        (p.kind ≠ 0x13 ∨ p.reply.status ≠ .ok →
          exec (.stationByteArrival 0xA5) s =
            .next { dropped with sl := { dropped.sl with rx := .frame [] (s.now + 5) } }) ∧
        (p.kind = 0x13 → p.reply.status = .ok →
          exec (.stationByteArrival 0xA5) s =
            exec (.stationByteArrival 0xA5) (dropped.warmRestart .restartRequest)))) ∧
    (∀ frame, s.sl.tx = .sending p frame →
      let sent : State := { s with sl := { s.sl with rx := .listen, tx := .idle } }
      (p.kind ≠ 0x13 ∨ p.reply.status ≠ .ok → exec .replySent s = .next sent) ∧
      (p.kind = 0x13 → p.reply.status = .ok →
        exec .replySent s = .next (sent.warmRestart .restartRequest)))

/-- A request that is refused changes nothing but the link, which answers it: the reply waits for the turnaround time that
stood when the request was taken. So for every request, whatever it carries. -/
def Obligations.RequestsAreAnswered : Prop :=
  ∀ (s : State) (i : Instr) (kind : Byte) (body : List Byte),
    Ready s → encodeRequest i = some (kind, body) →
      ∃ t r,
        exec i s = .next t ∧ t.now = s.now ∧ t.sl.rx = .listen ∧
          t.sl.tx = .waiting ⟨kind, r⟩ (s.now + s.sl.turnaround) ∧
          (r.status ≠ .ok → r.status ≠ .okClamped → t = answeredOnly s kind r)

/-! ## What every step keeps -/

/-- The state after reset meets every property that the statements below say each step keeps. What the spec leaves open of that
state is the model's choice (log entries 1, 2 and 25). -/
def Obligations.ResetMeetsTheInvariants : Prop :=
  QueueBounded State.reset ∧ GrantLimit State.reset ∧ GrantsSettled State.reset ∧
    FeedPlaces State.reset ∧ GatePermissions State.reset ∧ GatesSupervised State.reset ∧
    ViewsExact State.reset ∧ OutputsExact State.reset ∧ FlowRanges State.reset ∧
    CalibrationRanges State.reset ∧ OrdersPlaced State.reset ∧ StagesPlaced State.reset ∧
    WindowsPlaced State.reset ∧ LinesFramed State.reset

/-- Three rules that hold at all times, after every step: the report queue holds at most 32 events and the lost count stays at
255 or less; the number of spouts holding a feed grant is at most G; and no grant is left due, so that the feed condition is not
NORMAL, or the holders are at G, or no spout waits. Each is kept by itself. -/
def Obligations.StepKeepsQueueAndGrantLimits : Prop :=
  ∀ s t : State, step s = .next t →
    (QueueBounded s → QueueBounded t) ∧ (GrantLimit s → GrantLimit t) ∧
      (GrantsSettled s → GrantsSettled t)

/-- A waiting spout waits once and in WAIT_FEED or SUSPENDED, a holder is in a flowing state, and a spout with a lockout
reason is in IDLE or ABORTING, after every step. -/
def Obligations.StepKeepsFeedPlaces : Prop :=
  ∀ s t : State, FeedPlaces s → step s = .next t → FeedPlaces t

/-- No gate is commanded open and no aeration runs outside the states that permit it, and a spout is in a flowing state
exactly while it holds a grant; and each gate's supervision agrees with its terminal, its travel timer running exactly in OPENING
and CLOSING: after every step. Each is kept by itself. -/
def Obligations.StepKeepsGatesPermittedAndSupervised : Prop :=
  ∀ s t : State, step s = .next t →
    (GatePermissions s → GatePermissions t) ∧ (GatesSupervised s → GatesSupervised t)

/-- The Input/Output Block's view of every source condition is the condition as its owner has it, and every configurable
output, HOLD_ACK and ATTENTION are on exactly when their rules say so, after every step. That HOLD_ACK is on
while AIR_OK has not settled is the model's choice (log entry 28). -/
def Obligations.StepKeepsOutputsExact : Prop :=
  ∀ s t : State, ViewsExact s → OutputsExact s → step s = .next t → ViewsExact t ∧ OutputsExact t

/-- The filter window, q_filt, the residue and the raw count history keep their ranges, and q_filt stays the rounded mean of the
window; S lies within 1 to 1,048,575 and L within −Lmax to +Lmax of its spout; a partial frame begins with a header candidate
and is shorter than a frame, and a restore run holds two samples for each of at most two steps: after every step. Each is kept
by itself. -/
def Obligations.StepKeepsRanges : Prop :=
  ∀ s t : State, step s = .next t →
    (FlowRanges s → FlowRanges t) ∧ (CalibrationRanges s → CalibrationRanges t) ∧
      (LinesFramed s → LinesFramed t)

/-- Every order slot stays in exactly one place: free, in its spout's queue, active at its spout, or ended. -/
def Obligations.StepKeepsOrdersPlaced : Prop :=
  ∀ s t : State, FeedPlaces s → OrdersPlaced s → step s = .next t → OrdersPlaced t

/-- The stage timer runs under the name its spout's state gives it and in no other state, the settle deadline and the suspension
cause are held in their states alone; a weighing window runs the timer of its state, a claim waits exactly while its spout is in
TARE, and a window is OPEN only while a spout of its lane is active: after every step. -/
def Obligations.StepKeepsTimersPlaced : Prop :=
  ∀ s t : State, FeedPlaces s → step s = .next t →
    (OrdersPlaced s → StagesPlaced s → StagesPlaced t) ∧ (WindowsPlaced s → WindowsPlaced t)

/-! ## Sensor lines and flow -/

/-- In HUNT a byte from 0xA0 to 0xBF starts a partial frame, and any other byte, a character error and an expiry change nothing.
In COLLECT a byte that does not complete the frame is appended whatever its value. Each byte collected restarts the 2 ms gap
timer. A frame that fails its check, or is abandoned by a character error or by the gap timer, adds 1 to the bad-check count,
breaks a restore run in LOST, and leaves the bytes after its header re-examined; nothing else changes, the watch timer
included. That an expiry in HUNT changes nothing is the model's choice (log entry 9). -/
def Obligations.SensorLineFindsFrames : Prop :=
  ∀ (s : State) (sp : Spout) (b : Byte),
    let rejected := fun (s : State) (f : Framing) =>
      s.updSlr sp fun r =>
        { r with
          badCheck := min 65535 (r.badCheck + 1)
          framing := f
          goodRun := if r.line = .lost then 0 else r.goodRun
          hold := if r.line = .lost then [] else r.hold }
    Running s → GrantsSettled s →
      ((s.slr.get sp).framing = .hunt →
        (0xA0 ≤ b.toNat → b.toNat ≤ 0xBF →
          exec (.sensorByteArrival sp b) s =
            .next (s.updSlr sp fun r => { r with framing := .collect [b] (s.now + 2) })) ∧
        (b.toNat < 0xA0 ∨ 0xBF < b.toNat → exec (.sensorByteArrival sp b) s = .next s) ∧
        exec (.sensorCharacterError sp) s = .next s ∧ exec (.collectionGapExpiry sp) s = .next s) ∧
      (∀ bytes gap, (s.slr.get sp).framing = .collect bytes gap →
        (bytes.length < 5 →
          exec (.sensorByteArrival sp b) s =
            .next (s.updSlr sp fun r => { r with framing := .collect (bytes ++ [b]) (s.now + 2) })) ∧
        (∃ f, Reexamined 0xA0 0xBF bytes.tail (s.now + 2) f ∧
          exec (.sensorCharacterError sp) s = .next (rejected s f)) ∧
        (∃ f, Reexamined 0xA0 0xBF bytes.tail (max s.now gap + 2) f ∧
          exec (.collectionGapExpiry sp) s = .next (rejected { s with now := max s.now gap } f)) ∧
        (∀ h a1 a0 b1 b0, bytes = [h, a1, a0, b1, b0] → h ^^^ a1 ^^^ a0 ^^^ b1 ^^^ b0 ≠ b →
          ∃ f, Reexamined 0xA0 0xBF [a1, a0, b1, b0, b] (s.now + 2) f ∧
            exec (.sensorByteArrival sp b) s = .next (rejected s f)))

/-- A good frame in LIVE, HEAD_FAULT clear: the watch timer restarts at 30 ms, the line returns to HUNT, and the frame's two
samples are converted, put in the history, entered in the window and integrated to the gram, for the active order or the stray
mass and for the lane's window. In a state that takes no decision on a sample that is all; in COARSE and FINE each sample is
followed by its decision: at F the load settles and hands its grant back, at C it goes from COARSE to FINE, or is suspended under
a feed hold; and the grants that are then due are given, in the same step, to the spouts that wait. -/
def Obligations.GoodFrameIsIntegrated : Prop :=
  ∀ (s : State) (sp : Spout) (h a1 a0 b1 b0 b : Byte) (gap : Nat) (i : Fin 16),
    let x : RawSample := ⟨256 * a1.toNat + a0.toNat, h.getLsbD 4⟩
    let y : RawSample := ⟨256 * b1.toNat + b0.toNat, h.getLsbD 4⟩
    let f := s.fc.get sp
    let hunting :=
      s.updSlr sp fun r => { r with watch := some (s.now + 30), framing := .hunt, subRun := 0 }
    let recorded := fun (s : State) (counts : List Nat) =>
      s.updFc sp fun f => { f with history := keepLast 16 (f.history ++ counts) }
    Running s → (s.slr.get sp).framing = .collect [h, a1, a0, b1, b0] gap →
    h ^^^ a1 ^^^ a0 ^^^ b1 ^^^ b0 = b → h.getLsbD 3 = false →
    (s.slr.get sp).line = .live → f.lineView = .live →
      (GrantsSettled s → (s.sc.get sp).state ≠ .coarse → (s.sc.get sp).state ≠ .fine →
        exec (.sensorByteArrival sp b) s =
          .next
            (afterItems (recorded hunting [x.count, y.count]) sp [flowOf f x, flowOf f y] 0
              (overrangeCount f [x, y]))) ∧
      ((s.sc.get sp).active = some i → sp ∉ s.fa.requests →
        let first :=
          decided (afterItems (recorded hunting [x.count]) sp [flowOf f x] 0 (overrangeCount f [x])) sp i
        exec (.sensorByteArrival sp b) s =
          .next
            (grantsGiven
              (decided (afterItems (recorded first [y.count]) sp [flowOf f y] 0 (overrangeCount f [y])) sp
                i)))

/-- Two substitutions stand in for the samples that a watch expiry or a HEAD_FAULT frame in LIVE misses, while the limit is
not reached: the first repeats q_filt, the second the q_filt that the first leaves. The watch timer restarts at 20 ms after an
expiry and at 30 ms after a frame. In COARSE and FINE each substitution is followed by its decision, as a sample is, and the
grants that are then due are given in the same step. -/
def Obligations.MissingSamplesAreSubstituted : Prop :=
  ∀ (s : State) (sp : Spout) (h a1 a0 b1 b0 b : Byte) (gap : Nat) (i : Fin 16),
    let f := s.fc.get sp
    let q1 := f.qFilt
    let q2 := roundedMean (keepLast (s.params.get sp).w (f.window ++ [q1]))
    let counted := fun (s : State) (watch : Nat) (framing : Framing) =>
      s.updSlr sp fun r =>
        { r with
          watch := some watch
          framing := framing
          subRun := r.subRun + 2
          subCount := min 65535 (r.subCount + 2) }
    let both := fun (s : State) =>
      decided (afterItems (decided (afterItems s sp [q1] 1 0) sp i) sp [q2] 1 0) sp i
    Running s → (s.slr.get sp).line = .live → f.lineView = .live →
    (s.slr.get sp).subRun + 2 < (s.params.get sp).subLimit →
      (∀ t, (s.slr.get sp).watch = some t →
        let late : State := { s with now := max s.now t }
        (GrantsSettled s → (s.sc.get sp).state ≠ .coarse → (s.sc.get sp).state ≠ .fine →
          exec (.frameWatchExpiry sp) s =
            .next
              (afterItems (counted late (max s.now t + 20) (s.slr.get sp).framing) sp [q1, q2] 2 0)) ∧
        ((s.sc.get sp).active = some i → sp ∉ s.fa.requests →
          exec (.frameWatchExpiry sp) s =
            .next (grantsGiven (both (counted late (max s.now t + 20) (s.slr.get sp).framing))))) ∧
      ((s.slr.get sp).framing = .collect [h, a1, a0, b1, b0] gap →
        h ^^^ a1 ^^^ a0 ^^^ b1 ^^^ b0 = b → h.getLsbD 3 = true →
        (GrantsSettled s → (s.sc.get sp).state ≠ .coarse → (s.sc.get sp).state ≠ .fine →
          exec (.sensorByteArrival sp b) s =
            .next (afterItems (counted s (s.now + 30) .hunt) sp [q1, q2] 2 0)) ∧
        ((s.sc.get sp).active = some i → sp ∉ s.fa.requests →
          exec (.sensorByteArrival sp b) s = .next (grantsGiven (both (counted s (s.now + 30) .hunt)))))

/-- The substitution that reaches the limit takes the line LOST in the same step, after a watch expiry and after a HEAD_FAULT
frame. Reached on the first substitution of the pair, the second is not made; reached on the second, both are. In COARSE and FINE
each substitution has its decision. The Flow Computer and the Spout Controller see the line LOST, the window, the history and the
zero-track timer are emptied and stopped, and SENSOR_LOST carries the two counts. In an active state the loss is the abort cause
SENSOR_LOST, which enters the lockout set from AERATE onward; the grants that are then due are given. At an idle spout no cause is
taken: that case is written out in full. -/
def Obligations.SubstitutionLimitLosesTheLine : Prop :=
  ∀ (s : State) (sp : Spout) (h a1 a0 b1 b0 b : Byte) (gap : Nat),
    let f := s.fc.get sp
    let r := s.slr.get sp
    let limit := (s.params.get sp).subLimit
    let first := fun (x : State) => grantsGiven (lineLostBy (substituted x sp) sp)
    let second := fun (x : State) => grantsGiven (lineLostBy (substituted (substituted x sp) sp) sp)
    Running s → FeedPlaces s → r.line = .live → f.lineView = .live →
    (s.sc.get sp).state = .idle ∨ (s.sc.get sp).active ≠ none →
      (∀ t, r.watch = some t →
        let late : State := { s with now := max s.now t }
        let watched := late.updSlr sp fun r => { r with watch := some (max s.now t + 20) }
        let subs := min 65535 (r.subCount + 1)
        let counted :=
          afterItems
            (late.updSlr sp fun r =>
              { r with
                watch := some (max s.now t + 20), line := .lost, subRun := 0, goodRun := 0, hold := []
                subCount := subs })
            sp [f.qFilt] 1 0
        let told :=
          (counted.updFc sp fun f =>
              { f with
                lineView := .lost, window := [], qFilt := 0, history := [], zeroTimer := none }).updSc
            sp fun c => { c with lineView := .lost }
        let events := queued told (.spout sp) (.sensorLost r.badCheck subs)
        (limit ≤ r.subRun + 1 → exec (.frameWatchExpiry sp) s = .next (first watched)) ∧
        (r.subRun + 1 < limit → limit ≤ r.subRun + 2 →
          exec (.frameWatchExpiry sp) s = .next (second watched)) ∧
        (limit ≤ r.subRun + 1 → GrantsSettled s → (s.sc.get sp).state = .idle →
          exec (.frameWatchExpiry sp) s =
            .next { told with rq := events, iob := { told.iob with attention := events.attention } })) ∧
      (r.framing = .collect [h, a1, a0, b1, b0] gap → h ^^^ a1 ^^^ a0 ^^^ b1 ^^^ b0 = b →
        h.getLsbD 3 = true →
        let framed := s.updSlr sp fun r => { r with watch := some (s.now + 30), framing := .hunt }
        (limit ≤ r.subRun + 1 → exec (.sensorByteArrival sp b) s = .next (first framed)) ∧
        (r.subRun + 1 < limit → limit ≤ r.subRun + 2 →
          exec (.sensorByteArrival sp b) s = .next (second framed)))

/-- The restore run of a LOST line. A frame without HEAD_FAULT is one step: the first two only hold their samples; the third
makes the line LIVE, tells the Flow Computer and the Spout Controller, queues SENSOR_RESTORED unless it is the first
acquisition, and has all the held samples and its own integrated. A frame with HEAD_FAULT and a watch expiry break the run. That a
first acquisition queues nothing after a warm restart either is the model's choice (log entry 29). -/
def Obligations.RestoreRunBringsTheLineBack : Prop :=
  ∀ (s : State) (sp : Spout) (h a1 a0 b1 b0 b : Byte) (gap : Nat),
    let r := s.slr.get sp
    let xs : List RawSample :=
      [⟨256 * a1.toNat + a0.toNat, h.getLsbD 4⟩, ⟨256 * b1.toNat + b0.toNat, h.getLsbD 4⟩]
    Running s → GrantsSettled s → r.line = .lost →
    (s.sc.get sp).state ≠ .coarse → (s.sc.get sp).state ≠ .fine →
      (∀ t, r.watch = some t →
        exec (.frameWatchExpiry sp) s =
          .next
            (({ s with now := max s.now t } : State).updSlr sp fun r =>
              { r with watch := some (max s.now t + 20), goodRun := 0, hold := [] })) ∧
      (r.framing = .collect [h, a1, a0, b1, b0] gap → h ^^^ a1 ^^^ a0 ^^^ b1 ^^^ b0 = b →
        (h.getLsbD 3 = true →
          exec (.sensorByteArrival sp b) s =
            .next
              (s.updSlr sp fun r =>
                { r with watch := some (s.now + 30), framing := .hunt, goodRun := 0, hold := [] })) ∧
        (h.getLsbD 3 = false → r.goodRun < 2 →
          exec (.sensorByteArrival sp b) s =
            .next
              (s.updSlr sp fun r =>
                { r with
                  watch := some (s.now + 30), framing := .hunt, goodRun := r.goodRun + 1
                  hold := r.hold ++ xs })) ∧
        (h.getLsbD 3 = false → r.goodRun = 2 →
          let live :=
            ((s.updSlr sp fun r =>
                { r with
                  watch := some (s.now + 30), framing := .hunt, line := .live, subRun := 0
                  goodRun := 0, hold := [], firstAcq := true }).updSc
              sp fun c => { c with lineView := .live }).updFc sp fun f =>
              { f with
                lineView := .live
                history := keepLast 16 (f.history ++ (r.hold ++ xs).map (·.count))
                zeroTimer :=
                  if f.idleView = true ∧ f.coarseView = .active ∧ f.fineView = .active then
                    some (f.zeroTimer.getD (s.now + (s.params.get sp).zeroTrack))
                  else none }
          let events :=
            if r.firstAcq then queued s (.spout sp) (.sensorRestored r.badCheck r.subCount) else s.rq
          exec (.sensorByteArrival sp b) s =
            .next
              (afterItems
                { live with
                  rq := events
                  iob :=
                    if r.firstAcq then { s.iob with attention := events.attention } else s.iob }
                sp ((r.hold ++ xs).map (flowOf (s.fc.get sp))) 0
                (overrangeCount (s.fc.get sp) (r.hold ++ xs)))))

/-- An expiry of the zero-track timer restarts it and compares the rounded mean of the counts held with z: equal, z stays;
within the zero band, z takes it and ZERO_CAPTURED is queued; beyond, z stays and ZERO_DRIFT is queued; with no count held,
nothing more happens. -/
def Obligations.ZeroTracking : Prop :=
  ∀ (s : State) (sp : Spout) (t : Nat),
    let f := s.fc.get sp
    let k := f.history.length
    let c := (f.history.sum + k / 2) / k
    let late :=
      ({ s with now := max s.now t } : State).updFc sp fun f =>
        { f with zeroTimer := some (max s.now t + (s.params.get sp).zeroTrack) }
    let seen := late.updFc sp fun f => { f with lastCandidate := some c }
    let captured := queued seen (.spout sp) (.zeroCaptured f.zero c k)
    let drifted := queued seen (.spout sp) (.zeroDrift f.zero c k)
    Running s → f.zeroTimer = some t →
      (k = 0 → exec (.zeroTrackExpiry sp) s = .next late) ∧
      (0 < k → c = f.zero → exec (.zeroTrackExpiry sp) s = .next seen) ∧
      (0 < k → c ≠ f.zero → c ≤ f.zero + (s.params.get sp).zeroBand →
        f.zero ≤ c + (s.params.get sp).zeroBand →
        exec (.zeroTrackExpiry sp) s =
          .next
            { (seen.updFc sp fun f => { f with zero := c }) with
              rq := captured, iob := { s.iob with attention := captured.attention } }) ∧
      (0 < k → f.zero + (s.params.get sp).zeroBand < c ∨ c + (s.params.get sp).zeroBand < f.zero →
        exec (.zeroTrackExpiry sp) s =
          .next { seen with rq := drifted, iob := { s.iob with attention := drifted.attention } })

/-! ## Cutoff arithmetic -/

/-- R115: the learning step is e × Gp / 8 rounded half away from zero: (|e| × Gp + 4) div 8 with the sign of e. For an error
of at most 500,000 and a gain of at most 8 the product is at most 4,000,000 and the step lies within ±500,000; no gain takes
more than the whole error, gain 8 takes all of it, gain 0 and error 0 give 0. -/
def Obligations.LearningStepIsRoundedAway : Prop :=
  ∀ (e : Int) (gp : Nat),
    learningStep e gp = e.sign * (((e.natAbs * gp + 4) / 8 : Nat) : Int) ∧
    learningStep e 0 = 0 ∧ learningStep e 8 = e ∧ learningStep 0 gp = 0 ∧
    (gp ≤ 8 → (learningStep e gp).natAbs ≤ e.natAbs) ∧
    (e.natAbs ≤ 500000 → gp ≤ 8 →
      e.natAbs * gp ≤ 4000000 ∧ -500000 ≤ learningStep e gp ∧ learningStep e gp ≤ 500000)

/-- The preact is the mass of q_filt over the flight time, rounded half up, plus L, kept within 0 to T; F is T less the
preact; C is T less the dribble less the preact, and 0 when that is not positive; so F lies within 0 to T, C never exceeds F,
and at 0 a threshold is met by every mass. -/
def Obligations.ThresholdsOfADecision : Prop :=
  ∀ (r : SlotRec) (f : Fc) (p : SpoutParams),
    let formed : Int := (((f.qFilt * p.flight + 500) / 1000 : Nat) : Int) + f.corr
    let pre := preact r.target f.qFilt p.flight f.corr
    let d := dribbleInUse r.dribble p.dribble
    ((pre : Int) = if formed < 0 then 0 else if (r.target : Int) < formed then (r.target : Int) else formed) ∧
    ((fineThreshold r.target pre : Nat) : Int) = r.target - pre ∧
    ((coarseThreshold r.target d pre : Nat) : Int) = max 0 ((r.target : Int) - d - pre) ∧
    coarseThreshold r.target d pre ≤ fineThreshold r.target pre ∧
    (r.dribble = none → d = p.dribble) ∧ (∀ o, r.dribble = some o → d = o) ∧
    ((reached r f p).fine = true ↔ fineThreshold r.target pre ≤ r.mass) ∧
    ((reached r f p).coarse = true ↔ coarseThreshold r.target d pre ≤ r.mass) ∧
    ((reached r f p).fine = true → (reached r f p).coarse = true)

/-! ## Inputs, gates and the feed -/

/-- A raw level that changes to one that differs from the filtered level starts or restarts the debounce timer; one that
returns to the filtered level stops it; with a debounce time of 0 the input settles at once, as if its timer expired; a level
that is the raw level already is no change (the model's choice, log entry 9). -/
def Obligations.RawChangesAreDebounced : Prop :=
  ∀ (s : State) (i : InputId) (active : Bool),
    let v := s.input i
    Running s → GrantsSettled s →
      (v.raw = active → exec (.inputRawChange i active) s = .next s) ∧
      (v.raw ≠ active → v.filtered = Level.ofRaw active →
        exec (.inputRawChange i active) s =
          .next (s.setInput i { v with raw := active, timer := none })) ∧
      (v.raw ≠ active → v.filtered ≠ Level.ofRaw active → 0 < s.iob.debounce →
        exec (.inputRawChange i active) s =
          .next (s.setInput i { v with raw := active, timer := some (s.now + s.iob.debounce) })) ∧
      (v.raw ≠ active → v.filtered ≠ Level.ofRaw active → s.iob.debounce = 0 →
        exec (.inputRawChange i active) s =
          exec (.debounceExpiry i) (s.setInput i { v with raw := active, timer := some s.now }))

/-- SPOUT_DOWN, VEHICLE or LEVEL settles where it is no abort cause: at an idle spout, at a level that is none (SPOUT_DOWN or VEHICLE
active, LEVEL inactive) in any state, or as the first settling that the Spout Controller learns of. A new level sets the filtered
level and the change latch, queues INPUT_CHANGE while the report enable is on, and is told to the Spout Controller; a first settling
sets no latch and queues nothing; a settling at the level it has changes nothing but the timer, whatever the state. -/
def Obligations.SettlingSetsLevelAndLatch : Prop :=
  ∀ (s : State) (sp : Spout) (k : SpoutInput) (t : Nat),
    let i : InputId := .spout sp k
    let v := s.input i
    let level : Level := if v.raw then .active else .inactive
    let late : State := { s with now := max s.now t }
    let told := fun (s : State) =>
      s.updSc sp fun c =>
        { c with
          spoutDownView := if k = .spoutDown then level else c.spoutDownView
          vehicleView := if k = .vehicle then level else c.vehicleView
          levelView := if k = .level then level else c.levelView }
    let view :=
      if k = .spoutDown then (s.sc.get sp).spoutDownView
      else if k = .vehicle then (s.sc.get sp).vehicleView
      else (s.sc.get sp).levelView
    let noCause := (s.sc.get sp).state = .idle ∨ v.raw = !decide (k = .level) ∨ view = .unsettled
    Running s → GrantsSettled s → k = .spoutDown ∨ k = .vehicle ∨ k = .level → v.timer = some t →
      (v.filtered = level →
        exec (.debounceExpiry i) s = .next (late.setInput i { v with timer := none })) ∧
      (v.filtered = .unsettled → noCause →
        exec (.debounceExpiry i) s =
          .next (told (late.setInput i { v with filtered := level, timer := none }))) ∧
      (v.filtered ≠ level → v.filtered ≠ .unsettled → noCause →
        exec (.debounceExpiry i) s =
          .next
            (told
              (reportedIf v.report
                (late.setInput i { v with filtered := level, timer := none, latch := true })
                (.spout sp) (.inputChange i level))))

/-- A closed switch that settles proves its gate's movement: a make ends CLOSING and UNPROVEN in CLOSED, a drop ends OPENING in
OPEN, and the travel timer stops; in the other states of the table nothing moves. The Flow Computer is told, and its zero-track
timer starts or stops with the tracking condition. -/
def Obligations.SwitchSettlingProvesTheGate : Prop :=
  ∀ (s : State) (sp : Spout) (g : Gate) (t : Nat),
    let i : InputId := .spout sp (gateSwitch g)
    let v := s.input i
    let level : Level := if v.raw then .active else .inactive
    let first := decide (v.filtered = .unsettled)
    let late : State := { s with now := max s.now t }
    let settled :=
      reportedIf (v.report && !first)
        (late.setInput i
          { v with filtered := level, timer := none, latch := v.latch || !first })
        (.spout sp) (.inputChange i level)
    let seen :=
      settled.updFc sp fun f =>
        tracked
          { f with
            coarseView := if g = .coarse then level else f.coarseView
            fineView := if g = .fine then level else f.fineView }
          (max s.now t + (s.params.get sp).zeroTrack)
    Running s → GrantsSettled s → v.timer = some t → v.filtered ≠ level →
      (level = .active → (s.gate sp g).state = .closing ∨ (s.gate sp g).state = .unproven →
        exec (.debounceExpiry i) s = .next (seen.setGate sp g ⟨.closed, none⟩)) ∧
      (level = .inactive → (s.gate sp g).state = .opening →
        exec (.debounceExpiry i) s = .next (seen.setGate sp g ⟨.opened, none⟩)) ∧
      ((level = .inactive →
          (s.gate sp g).state = .opened ∨ (s.gate sp g).state = .closing ∨
            (s.gate sp g).state = .unproven) →
        (level = .active → (s.gate sp g).state = .opened) →
        exec (.debounceExpiry i) s = .next seen)

/-- A gate fault: a travel timer that expires in OPENING (FAILED_OPEN, the gate counts as open) or in CLOSING (FAILED_CLOSE, the
gate is unproven), and a switch that drops in CLOSED (DROPPED, unproven). The fault is the abort cause GATE_FAULT in whatever state
the spout is in, and the grants that are then due are given. An idle spout is locked out with LOCKOUT_SET, no gathered reason is
added and no output is commanded. In AERATE, COARSE and FINE the load is aborted: GATE_FAULT joins the gathered reasons and the
lockout set, both gates close and the aeration stops, the grant is handed back and the abort settle begins. -/
def Obligations.GateFaultsLockTheSpout : Prop :=
  ∀ (s : State) (sp : Spout) (g : Gate) (t : Nat),
    let c := s.sc.get sp
    let late : State := { s with now := max s.now t }
    let i : InputId := .spout sp (gateSwitch g)
    let v := s.input i
    let settled :=
      reportedIf v.report
        (late.setInput i { v with filtered := .inactive, timer := none, latch := true })
        (.spout sp) (.inputChange i .inactive)
    let seen :=
      settled.updFc sp fun f =>
        { f with
          coarseView := if g = .coarse then .inactive else f.coarseView
          fineView := if g = .fine then .inactive else f.fineView
          zeroTimer := none }
    let faulted := fun (cmd : Instr) (x : State) =>
      let locked := lockedFor x sp .gateFault
      exec cmd s = .next (grantsGiven (causeTaken x sp .gateFault)) ∧
      (c.state = .idle → GrantsSettled s → exec cmd s = .next locked) ∧
      (c.state = .aerate ∨ c.state = .coarse ∨ c.state = .fine → s.fa.requests = [] →
        exec cmd s =
          .next
            (settling locked sp
              { locked.sc.get sp with reasons := { c.reasons with gateFault := true } } .aborting))
    Running s → c.state = .idle ∨ c.active ≠ none →
      ((s.gate sp g).timer = some t → (s.gate sp g).state = .opening →
        faulted (.gateTravelExpiry sp g) (late.setGate sp g ⟨.opened, none⟩)) ∧
      ((s.gate sp g).timer = some t → (s.gate sp g).state = .closing →
        faulted (.gateTravelExpiry sp g) (late.setGate sp g ⟨.unproven, none⟩)) ∧
      (v.timer = some t → v.raw = false → v.filtered = .active → (s.gate sp g).state = .closed →
        faulted (.debounceExpiry i) (seen.setGate sp g ⟨.unproven, none⟩))

/-- A spout lifted, a vehicle that leaves and a wet level probe abort a load: SPOUT_DOWN or VEHICLE settles inactive or LEVEL
settles active, in an active state and at a view that is settled. The change is latched and reported, the abort cause is taken as
the state has it, the view is set, and the grants that are then due are given. In AERATE, COARSE and FINE: the reason joins the
gathered reasons and, but for LEVEL_PROBE, the lockout set; both gates close and the aeration stops, the grant is handed back, and
the abort settle begins with its deadline; the order stays active. -/
def Obligations.LiftedSpoutAbortsTheLoad : Prop :=
  ∀ (s : State) (sp : Spout) (k : SpoutInput) (t : Nat),
    let i : InputId := .spout sp k
    let v := s.input i
    let c := s.sc.get sp
    let wet := decide (k = .level)
    let level := Level.ofRaw wet
    let late : State := { s with now := max s.now t }
    let settled :=
      reportedIf v.report (late.setInput i { v with filtered := level, timer := none, latch := true })
        (.spout sp) (.inputChange i level)
    let told := fun (x : State) =>
      x.updSc sp fun c =>
        { c with
          spoutDownView := if k = .spoutDown then level else c.spoutDownView
          vehicleView := if k = .vehicle then level else c.vehicleView
          levelView := if k = .level then level else c.levelView }
    let aborts := fun (r : AbortReason) (reasons : ReasonSet) (locked : State) =>
      exec (.debounceExpiry i) s = .next (grantsGiven (told (causeTaken settled sp r))) ∧
      (c.state = .aerate ∨ c.state = .coarse ∨ c.state = .fine → s.fa.requests = [] →
        exec (.debounceExpiry i) s =
          .next (told (settling locked sp { locked.sc.get sp with reasons } .aborting)))
    Running s → c.state ≠ .idle → c.active ≠ none → v.timer = some t → v.raw = wet →
    v.filtered = Level.ofRaw (!wet) →
      (k = .spoutDown → c.spoutDownView ≠ .unsettled →
        aborts .spoutLifted { c.reasons with spoutLifted := true } (lockedFor settled sp .spoutLifted)) ∧
      (k = .vehicle → c.vehicleView ≠ .unsettled →
        aborts .vehicleLeft { c.reasons with vehicleLeft := true } (lockedFor settled sp .vehicleLeft)) ∧
      (k = .level → c.levelView ≠ .unsettled →
        aborts .levelProbe { c.reasons with levelProbe := true } settled)

/-- The feed condition follows the settled levels of FEED_HOLD and AIR_OK. With no grant held, whatever spouts wait, a
settling sets the arbiter's view; when the condition changes with it, FEED_HELD follows and FEED_STATE, with the number of spouts
that wait, is queued behind the INPUT_CHANGE of the settling; and HOLD_ACK is on exactly while the view of FEED_HOLD is active. A
condition other than NORMAL grants nothing, and the spouts wait on in their places; when it is NORMAL the grants that are due are
given in the same step.
That it is on at once when AIR_OK has not settled yet is the model's choice (log entry 28). -/
def Obligations.FeedConditionFollowsTheInputs : Prop :=
  ∀ (s : State) (i : InputId) (t : Nat),
    let v := s.input i
    let level : Level := if v.raw then .active else .inactive
    let first := decide (v.filtered = .unsettled)
    let late : State := { s with now := max s.now t }
    let settled :=
      reportedIf (v.report && !first)
        (late.setInput i { v with filtered := level, timer := none, latch := v.latch || !first })
        .station (.inputChange i level)
    let hold := if i = .feedHold then level else s.fa.feedHoldView
    let air := if i = .airOk then level else s.fa.airOkView
    let seen : State :=
      { settled with
        fa := { s.fa with feedHoldView := hold, airOkView := air }
        iob := { settled.iob with holdAck := decide (hold = .active) } }
    let new := conditionOf hold air
    Running s → i = .feedHold ∨ i = .airOk → (∀ sp, s.fa.holders.get sp = false) →
    v.timer = some t → v.filtered ≠ level →
      (new = s.fa.condition →
        exec (.debounceExpiry i) s = .next (grantsGiven seen) ∧
          (GrantsSettled s → exec (.debounceExpiry i) s = .next seen)) ∧
      (new ≠ s.fa.condition →
        let changed :=
          reported
            (({ seen with fa := { seen.fa with condition := new } } : State).notice fun x =>
              { x with feedHeld := decide (new ≠ .normal) })
            .station
            (.feedState s.fa.condition new 0 s.fa.requests.length (decide (hold = .active)))
        exec (.debounceExpiry i) s = .next (grantsGiven changed) ∧
          (new ≠ .normal ∨ s.fa.requests = [] → exec (.debounceExpiry i) s = .next changed))

/-- When the feed returns, by AIR_OK settling active or FEED_HOLD settling inactive, the condition becomes NORMAL, FEED_HELD goes,
HOLD_ACK is off, and FEED_STATE shows the holders and the waiting spouts as they stood; then the spouts of the list are granted
in its order, while fewer than G hold grants, each taking its grant as it comes. A spout that waits alone, in WAIT_FEED or
SUSPENDED, with its order below F: it holds the grant, its wait timer stops, its suspension cause goes, and it aerates with both
gates closed and the PRIME timer at the full prime time. With M at F it hands the grant back and settles, the fine cutoff mass
written. -/
def Obligations.ReturnOfAirGrantsTheHead : Prop :=
  ∀ (s : State) (i : InputId) (t : Nat),
    let v := s.input i
    let air := decide (i = .airOk)
    let level := Level.ofRaw air
    let first := decide (v.filtered = .unsettled)
    let late : State := { s with now := max s.now t }
    let settled :=
      reportedIf (v.report && !first)
        (late.setInput i { v with filtered := level, timer := none, latch := v.latch || !first })
        .station (.inputChange i level)
    let held := (Spout.all.filter s.fa.holders.get).length
    let normal :=
      reported
        (({ settled with
            fa := { s.fa with feedHoldView := .inactive, airOkView := .active, condition := .normal }
            iob := { settled.iob with holdAck := false } } : State).notice
          fun x => { x with feedHeld := false })
        .station (.feedState s.fa.condition .normal held s.fa.requests.length false)
    Running s → i = .airOk ∨ i = .feedHold → s.fa.condition ≠ .normal →
    (i = .airOk → s.fa.feedHoldView = .inactive) → (i = .feedHold → s.fa.airOkView = .active) →
    v.timer = some t → v.raw = air → v.filtered ≠ level →
      exec (.debounceExpiry i) s = .next (grantsGiven normal) ∧
      (∀ (sp : Spout) (slot : Fin 16),
        let granted : State :=
          { normal with fa := { normal.fa with requests := [], holders := s.fa.holders.set sp true } }
        let c := { s.sc.get sp with grantHeld := true, stage := none, cause := none }
        s.fa.requests = [sp] → held < s.fa.g → (s.sc.get sp).active = some slot →
          ((reachedBy s sp slot).fine = false → 0 < (s.params.get sp).prime →
            exec (.debounceExpiry i) s =
              .next
                (movedTo granted sp
                  { c with
                    state := .aerate
                    stage := some ⟨.prime, max s.now t + (s.params.get sp).prime⟩ }
                  false false true)) ∧
          ((reachedBy s sp slot).fine = true →
            exec (.debounceExpiry i) s =
              .next (cutOff { granted with sc := s.sc.set sp c } sp slot)))

/-- The air fails, or a hold comes: AIR_OK settles inactive or FEED_HOLD settles active, and the condition changes. To AIR_FAULT and
to HOLD_AIR_FAULT every holder is suspended at once, in AERATE, COARSE and FINE; to HOLD a holder in AERATE is suspended at once,
one in COARSE or FINE runs on. The suspensions are taken in spout order. A suspended spout's outputs are off, its grant is handed
back and its request stands at the tail, behind every spout that waited before; the condition, FEED_HELD, FEED_STATE with the
holders and the waiting spouts as they then stand, and HOLD_ACK follow in the same step, and no grant is given. -/
def Obligations.AirFaultAndHoldSuspend : Prop :=
  ∀ (s : State) (i : InputId) (t : Nat),
    let v := s.input i
    let air := decide (i = .airOk)
    let level := Level.ofRaw (!air)
    let first := decide (v.filtered = .unsettled)
    let late : State := { s with now := max s.now t }
    let settled :=
      reportedIf (v.report && !first)
        (late.setInput i { v with filtered := level, timer := none, latch := v.latch || !first })
        .station (.inputChange i level)
    let holdView := if air then s.fa.feedHoldView else .active
    let airView := if air then .inactive else s.fa.airOkView
    let new : FeedCond :=
      if holdView = .inactive then .airFault else if airView = .active then .hold else .holdAirFault
    let cause : SuspendCause := if new = .hold then .feedHold else .airFault
    let changed :=
      settled.updFa fun f => { f with feedHoldView := holdView, airOkView := airView, condition := new }
    let stops := fun (sp : Spout) =>
      s.fa.holders.get sp = true ∧ (new = .hold → (s.sc.get sp).state = .aerate)
    let taken :=
      Spout.all.foldl (fun x sp => if stops sp then suspendedBy x sp cause else x) changed
    let ack := decide (holdView = .active ∧ ∀ sp ∈ Spout.all, taken.fa.holders.get sp = false)
    Running s → FeedPlaces s → i = .airOk ∨ i = .feedHold → holdView ≠ .unsettled →
    airView ≠ .unsettled → s.fa.condition ≠ new → v.timer = some t → v.raw = !air →
    v.filtered ≠ level →
      exec (.debounceExpiry i) s =
        .next
          (reported (taken.notice fun x => { x with feedHeld := true }) .station
            (.feedState s.fa.condition new (Spout.all.filter taken.fa.holders.get).length
              taken.fa.requests.length ack))

/-! ## Requests -/

/-- A code that names no spout, no lane or no slot is refused and changes nothing: BAD_FIELD naming field 1 for a spout code
above 3 in every request that names a spout and for a lane code other than 1 and 2, NO_SUCH_SLOT for a slot number above
15. -/
def Obligations.CodesThatNameNothingAreRefused : Prop :=
  ∀ (s : State) (code : Byte) (o : Byte) (span corr : BitVec 32) (zero : BitVec 16) (f : SpoutFields)
    (r : OrderFields) (l : LaneFields), Ready s →
    let bad : Reply := ⟨.badField, [1]⟩
    (3 < code.toNat →
      exec (.readSpout code o) s = .next (answeredOnly s 0x05 bad) ∧
      exec (.setCalibration code span zero corr) s = .next (answeredOnly s 0x06 bad) ∧
      exec (.zero code) s = .next (answeredOnly s 0x07 bad) ∧
      exec (.start code) s = .next (answeredOnly s 0x09 bad) ∧
      exec (.stop code) s = .next (answeredOnly s 0x0A bad) ∧
      exec (.clearLockout code) s = .next (answeredOnly s 0x10 bad) ∧
      (f.spout = code → exec (.configSpout f) s = .next (answeredOnly s 0x04 bad)) ∧
      (r.spout = code → r.tag.length = 8 →
        exec (.loadOrder r) s = .next (answeredOnly s 0x08 bad))) ∧
    (code.toNat = 0 ∨ 2 < code.toNat →
      exec (.readLane code) s = .next (answeredOnly s 0x11 bad) ∧
      (l.lane = code → exec (.configLane l) s = .next (answeredOnly s 0x03 bad))) ∧
    (15 < code.toNat →
      exec (.readOrder code) s = .next (answeredOnly s 0x0C ⟨.noSuchSlot, []⟩) ∧
      exec (.releaseOrder code) s = .next (answeredOnly s 0x0D ⟨.noSuchSlot, []⟩))

/-- The read requests answer OK with every field of their layout, as the state has it: 32 bytes for the station, 54 for a spout, 93
for a lane, 54 for an order. READ-STATION and READ-SPOUT clear the change latches they report, READ-SPOUT also the stray mass,
reported before it is cleared, when its option asks for it; READ-LANE and READ-ORDER change nothing. That READ-SPOUT takes every
options byte and reads bit 0 alone is the model's reading (log entry 26), and so are the bytes of an absent place and of a result
never made (log entry 15), of a FREE slot's tag and spout (log entry 6), and two's complement for L and Nb (log entry 30). -/
def Obligations.ReadsReportAndClear : Prop :=
  ∀ (s : State) (sp : Spout) (l : Lane) (i : Fin 16) (options : Byte), Ready s →
    let quiet := fun (v : Input) => { v with latch := false }
    exec .readStation s =
      .next
        (replied s
          { s with
            iob := { s.iob with feedHold := quiet s.iob.feedHold, airOk := quiet s.iob.airOk } }
          0x01 (okReply (stationReply s))) ∧
    (s.fa.requests.length ≤ 4 → (stationReply s).length = 32) ∧
    exec (.readSpout (spoutCode sp) options) s =
      .next
        (replied s
          { s with
            iob :=
              { s.iob with
                inputs :=
                  s.iob.inputs.set sp
                    { spoutDown := quiet (s.iob.inputs.get sp).spoutDown
                      vehicle := quiet (s.iob.inputs.get sp).vehicle
                      level := quiet (s.iob.inputs.get sp).level
                      coarseClosed := quiet (s.iob.inputs.get sp).coarseClosed
                      fineClosed := quiet (s.iob.inputs.get sp).fineClosed } }
            fc :=
              if options.getLsbD 0 then s.fc.set sp { s.fc.get sp with stray := 0 } else s.fc }
          0x05 (okReply (spoutReply s sp))) ∧
    ((s.ot.queues.get sp).length ≤ 4 → (spoutReply s sp).length = 54) ∧
    exec (.readLane (laneCode l)) s = .next (answeredOnly s 0x11 (okReply (laneReply s l))) ∧
    (laneReply s l).length = 93 ∧
    exec (.readOrder (slotCode i)) s = .next (answeredOnly s 0x0C (okReply (orderReply s i))) ∧
    ((s.ot.slot i).tag.length = 8 → (orderReply s i).length = 54)

/-- R189: READ-EVENTS removes the oldest k events, k the smaller of n and the number held, and answers with k, the number left,
the lost count as it stood and the k records of 14 bytes, oldest first; the lost count becomes 0 and ATTENTION follows the
events left. An n above 8 is refused BAD_FIELD naming field 1 and changes nothing. -/
def Obligations.ReadEventsRemovesTheOldest : Prop :=
  ∀ (s : State) (n : Byte), Ready s →
    let k := min n.toNat s.rq.events.length
    (8 < n.toNat → exec (.readEvents n) s = .next (answeredOnly s 0x0E ⟨.badField, [1]⟩)) ∧
    (n.toNat ≤ 8 →
      exec (.readEvents n) s =
        .next
          (replied s
            { s with
              rq := { s.rq with events := s.rq.events.drop k, lost := 0 }
              iob :=
                { s.iob with
                  attention := (s.rq.events.drop k).any fun e => s.rq.mask.enables e.body } }
            0x0E
            (okReply
              ([byteOf k, byteOf (s.rq.events.length - k), byteOf s.rq.lost] ++
                ((s.rq.events.take k).map Event.bytes).flatten))) ∧
      ∀ e ∈ s.rq.events, (Event.bytes e).length = 14)

/-- LOAD-ORDER with a valid spout: the first field that fails is named in BAD_FIELD; then the product, the room in the spout's
queue and a free slot are tested in that order; an accepted order takes the lowest free slot and the tail of the queue, and is
answered with the slot and its place. -/
def Obligations.LoadOrderTakesTheLowestFreeSlot : Prop :=
  ∀ (s : State) (sp : Spout) (f : OrderFields) (i : Fin 16),
    let q := s.ot.queues.get sp
    let valid := ∀ n : Nat, 2 ≤ n → n ≤ 8 → ¬ orderFieldFails f n
    Ready s → f.spout = spoutCode sp → f.tag.length = 8 →
      (∀ n : Nat, 2 ≤ n → n ≤ 8 → orderFieldFails f n →
        (∀ m : Nat, 2 ≤ m → m < n → ¬ orderFieldFails f m) →
          exec (.loadOrder f) s = .next (answeredOnly s 0x08 ⟨.badField, [byteOf n]⟩)) ∧
      (valid →
        (f.product.toNat ≠ (s.params.get sp).product →
          exec (.loadOrder f) s = .next (answeredOnly s 0x08 ⟨.productMismatch, []⟩)) ∧
        (f.product.toNat = (s.params.get sp).product →
          (4 ≤ q.length → exec (.loadOrder f) s = .next (answeredOnly s 0x08 ⟨.queueFull, []⟩)) ∧
          (q.length < 4 → (∀ j, (s.ot.slot j).state ≠ .free) →
            exec (.loadOrder f) s = .next (answeredOnly s 0x08 ⟨.tableFull, []⟩)) ∧
          (q.length < 4 → (s.ot.slot i).state = .free →
            (∀ j, j < i → (s.ot.slot j).state ≠ .free) →
              exec (.loadOrder f) s =
                .next
                  (replied s
                    { s with
                      ot :=
                        { s.ot.setSlot i (placedRecord sp f) with
                          queues := s.ot.queues.set sp (q ++ [i]) } }
                    0x08 (okReply [slotCode i, byteOf (q.length + 1)])))))

/-- WITHDRAW-VEHICLE frees every QUEUED slot that carries the tag, in all four queues, whose other entries keep their order,
and answers with their number. Each spout whose active order carries the tag takes the abort cause HOST_WITHDRAW in the same step,
in whatever state it is, and is named in the reply; that several take it in spout order is the model's choice (log entry 14). The
grants that are then due are given. A single such spout that flows, with no spout waiting, begins its abort settle. A tag with a
character outside 0x20 to 0x7E is refused BAD_FIELD. -/
def Obligations.WithdrawFreesTheVehiclesOrders : Prop :=
  ∀ (s : State) (tag : List Byte) (sp : Spout),
    let mine := fun i => decide ((s.ot.slot i).state = .queued ∧ (s.ot.slot i).tag = tag)
    let loads := fun q => ∃ i, (s.sc.get q).active = some i ∧ (s.ot.slot i).tag = tag
    let freed : State :=
      { s with
        ot :=
          { s.ot with
            slots := Vector.ofFn fun i => if mine i then SlotRec.cleared else s.ot.slot i
            queues := s.ot.queues.map fun q => q.filter fun i => !mine i } }
    let count := byteOf ((List.finRange 16).filter mine).length
    let withdrawn :=
      Spout.all.foldl (fun x q => if loads q then causeTaken x q .hostWithdraw else x) freed
    Ready s → tag.length = 8 →
      ((∃ b ∈ tag, b.toNat < 0x20 ∨ 0x7E < b.toNat) →
        exec (.withdrawVehicle tag) s = .next (answeredOnly s 0x0B ⟨.badField, [1]⟩)) ∧
      ((∀ b ∈ tag, 0x20 ≤ b.toNat ∧ b.toNat ≤ 0x7E) →
        exec (.withdrawVehicle tag) s =
          .next
            (replied s (grantsGiven withdrawn) 0x0B
              (okReply [count, byteOf (flags (Spout.all.map fun q => decide (loads q)))])) ∧
        ((∀ q, ¬ loads q) → GrantsSettled s →
          exec (.withdrawVehicle tag) s = .next (replied s freed 0x0B (okReply [count, 0]))) ∧
        ((∀ q, loads q ↔ q = sp) → s.fa.requests = [] →
          (s.sc.get sp).state = .aerate ∨ (s.sc.get sp).state = .coarse ∨
            (s.sc.get sp).state = .fine →
          exec (.withdrawVehicle tag) s =
            .next
              (replied s
                (settling freed sp
                  { s.sc.get sp with
                    reasons := { (s.sc.get sp).reasons with hostWithdraw := true } }
                  .aborting)
                0x0B (okReply [count, BitVec.ofNat 8 (2 ^ (spoutCode sp).toNat)]))))

/-- RELEASE-ORDER of a slot that has ended frees it with a cleared record, and makes its spout's most recently ended
reference absent, RESULT_WAITING with it, when the slot is the one it names; a FREE, QUEUED or ACTIVE slot is refused NOT_ENDED
and a number above 15 NO_SUCH_SLOT, nothing changed. No event is queued. What the tag and the spout of a cleared record are is the
model's reading (log entry 6). -/
def Obligations.ReleaseFreesAnEndedSlot : Prop :=
  ∀ (s : State) (i : Fin 16) (n : Byte) (sp : Spout), Ready s →
    let r := s.ot.slot i
    let freed : State := { s with ot := s.ot.setSlot i .cleared }
    (15 < n.toNat → exec (.releaseOrder n) s = .next (answeredOnly s 0x0D ⟨.noSuchSlot, []⟩)) ∧
    (r.state ≠ .done → r.state ≠ .aborted →
      exec (.releaseOrder (slotCode i)) s = .next (answeredOnly s 0x0D ⟨.notEnded, []⟩)) ∧
    (r.state = .done ∨ r.state = .aborted → r.spout = some sp →
      (s.ot.lastEnded.get sp ≠ some i →
        exec (.releaseOrder (slotCode i)) s =
          .next (replied s freed 0x0D (okReply [slotCode i]))) ∧
      (s.ot.lastEnded.get sp = some i →
        exec (.releaseOrder (slotCode i)) s =
          .next
            (replied s
              (({ freed with
                  ot := { freed.ot with lastEnded := s.ot.lastEnded.set sp none } } : State).notice
                fun v => { v with result := v.result.set sp false })
              0x0D (okReply [slotCode i]))))

/-- START is refused at the first test that fails, and changes nothing: the spout IDLE, an order queued, the lockout set empty,
every permissive, the line LIVE, the view current. The replies list the lockout set, the failing inputs, and the stale events
with the lost count. -/
def Obligations.StartIsRefusedInOrder : Prop :=
  ∀ (s : State) (sp : Spout), Ready s →
    let c := s.sc.get sp
    let refused := fun (r : Reply) => exec (.start (spoutCode sp)) s = .next (answeredOnly s 0x09 r)
    let failing :=
      (if s.level sp .spoutDown = .active then 0 else 1) +
        (if s.level sp .vehicle = .active then 0 else 2) +
        (if s.level sp .level = .inactive then 0 else 4) +
        (if s.level sp .coarseClosed = .active then 0 else 8) +
        (if s.level sp .fineClosed = .active then 0 else 16)
    (c.state ≠ .idle → refused ⟨.notIdle, []⟩) ∧
    (c.state = .idle → s.ot.queues.get sp = [] → refused ⟨.noOrder, []⟩) ∧
    (c.state = .idle → s.ot.queues.get sp ≠ [] →
      (c.lockout ≠ .empty → refused ⟨.lockedOut, [c.lockout.byte]⟩) ∧
      (c.lockout = .empty →
        (¬ permissivesHold s sp → refused ⟨.permissive, [byteOf failing]⟩) ∧
        (permissivesHold s sp →
          (c.lineView = .lost → refused ⟨.sensorLost, []⟩) ∧
          (c.lineView = .live → inputChangesOf s sp ≠ 0 ∨ s.rq.lost ≠ 0 →
            refused ⟨.staleView, [byteOf (inputChangesOf s sp), byteOf s.rq.lost]⟩))))

/-- START accepted: the head order is active with M at 0 and its start time, the gathered reasons, cause and deadline are
cleared, and the reply carries the slot and the orders left. With the lane's reconcile enable off, and with it on while the
window is OPEN, the spout enters WAIT_FEED with its feed request and timer, in the same step; the grants that are then due are
given, to it too when its turn comes. With the enable on and the window CLOSED it enters TARE and its claim creates a window that
is TARING; with the window TARING or WEIGHING it enters TARE and its claim joins those that wait. -/
def Obligations.StartBeginsTheLoad : Prop :=
  ∀ (s : State) (sp : Spout) (i : Fin 16) (rest : List (Fin 16)),
    let c := s.sc.get sp
    let u := s.lwu.get sp.lane
    let fresh := { c with active := some i, reasons := .empty, cause := none, deadline := none }
    let waits :=
      (enters (started s sp i rest) sp
          { fresh with
            state := .waitFeed
            stage := some ⟨.feedWait, s.now + (s.params.get sp).feedWait * 1000⟩ }).updFa
        fun f => { f with requests := f.requests ++ [sp] }
    let tares := enters (started s sp i rest) sp { fresh with state := .tare }
    let begins := fun (x : State) =>
      exec (.start (spoutCode sp)) s = .next (replied s x 0x09 (okReply [slotCode i, byteOf rest.length]))
    Ready s → c.state = .idle → s.ot.queues.get sp = i :: rest → c.lockout = .empty →
    permissivesHold s sp → c.lineView = .live → inputChangesOf s sp = 0 → s.rq.lost = 0 →
      (u.params.enable = false ∨ u.window.state = .opened → sp ∉ s.fa.requests →
        begins (grantsGiven waits) ∧ (s.fa.condition ≠ .normal → begins waits)) ∧
      (u.params.enable = true → u.window.state = .closed → GrantsSettled s →
        begins
          (({ tares with
              lwu :=
                s.lwu.set sp.lane
                  { u with
                    window :=
                      { state := .taring
                        number := (u.window.number + 1) % 65536
                        tare := none
                        claims := u.window.claims.set sp.side true
                        contrib := ⟨⟨0, 0, 0, false⟩, ⟨0, 0, 0, false⟩⟩
                        bridgeLost := decide (u.line = .lost)
                        gross := none
                        timer := some ⟨.tare, s.now + u.params.tareTimeout * 1000⟩ } } } : State).notice
            fun v => { v with weighing := v.weighing.set sp.lane true })) ∧
      (u.params.enable = true → u.window.state = .taring ∨ u.window.state = .weighing → GrantsSettled s →
        begins
          { tares with
            lwu :=
              s.lwu.set sp.lane
                { u with window := { u.window with claims := u.window.claims.set sp.side true } } })

/-- STOP takes HOST_STOP in every active state: in WAIT_FEED and TARE the order ends ABORTED at once and the spout is IDLE, its
request or claim withdrawn; in AERATE, COARSE, FINE and SUSPENDED the abort settle begins; in SETTLE the settle becomes an
abort settle with the timer and deadline it has; in ABORTING the reason is added. The grants that are then due are given to the
spouts that wait, in the same step; while none waits that is all. In IDLE it is refused NOT_ACTIVE. -/
def Obligations.StopAbortsByState : Prop :=
  ∀ (s : State) (sp : Spout) (i : Fin 16),
    let c := s.sc.get sp
    let reasons := { c.reasons with hostStop := true }
    let reply := fun (st : SpoutState) => okReply ([st.code, slotCode i] ++ reasons.bytes)
    let stopped := fun (t : State) (st : SpoutState) =>
      exec (.stop (spoutCode sp)) s = .next (replied s (grantsGiven t) 0x0A (reply st)) ∧
        (t.fa.requests = [] → exec (.stop (spoutCode sp)) s = .next (replied s t 0x0A (reply st)))
    Ready s →
      (c.state = .idle →
        exec (.stop (spoutCode sp)) s = .next (answeredOnly s 0x0A ⟨.notActive, []⟩)) ∧
      (c.active = some i →
        (c.state = .waitFeed → stopped (orderAborted (unrequested s sp) sp i reasons) .idle) ∧
        (c.state = .tare → sp ∉ s.fa.requests →
          stopped (orderAborted (claimWithdrawn s sp) sp i reasons) .idle) ∧
        (c.state = .aerate ∨ c.state = .coarse ∨ c.state = .fine → sp ∉ s.fa.requests →
          stopped (settling s sp { c with reasons } .aborting) .aborting) ∧
        (c.state = .suspended →
          stopped (settling (unrequested s sp) sp { c with reasons, cause := none } .aborting)
            .aborting) ∧
        (c.state = .settle → sp ∉ s.fa.requests →
          stopped (enters s sp { c with reasons, state := .aborting }) .aborting) ∧
        (c.state = .aborting → sp ∉ s.fa.requests →
          stopped { s with sc := s.sc.set sp { c with reasons } } .aborting))

/-- CLEAR-LOCKOUT of an idle spout empties the lockout set, hands over the SPOUT_LOCKOUT condition and answers with the set as
it stood, when every condition it tests is absent; one that is present is refused and listed; an empty set is cleared without
the tests; and the spout must be IDLE. -/
def Obligations.ClearLockoutTestsTheConditions : Prop :=
  ∀ (s : State) (sp : Spout), Ready s →
    let c := s.sc.get sp
    let down := c.lockout.spoutLifted = true → s.level sp .spoutDown = .active
    let away := c.lockout.vehicleLeft = true → s.level sp .vehicle = .active
    let present :=
      (if c.lockout.spoutLifted = true ∧ s.level sp .spoutDown ≠ .active then 1 else 0) +
        (if c.lockout.vehicleLeft = true ∧ s.level sp .vehicle ≠ .active then 2 else 0) +
        (if s.level sp .coarseClosed = .active then 0 else 8) +
        (if s.level sp .fineClosed = .active then 0 else 16) +
        (if c.lineView = .live then 0 else 32)
    let clear :=
      down ∧ away ∧ s.level sp .coarseClosed = .active ∧ s.level sp .fineClosed = .active ∧
        c.lineView = .live
    (c.state ≠ .idle →
      exec (.clearLockout (spoutCode sp)) s = .next (answeredOnly s 0x10 ⟨.notIdle, []⟩)) ∧
    (c.state = .idle → c.lockout = .empty →
      exec (.clearLockout (spoutCode sp)) s = .next (answeredOnly s 0x10 (okReply [0]))) ∧
    (c.state = .idle → c.lockout ≠ .empty → ¬ clear →
      exec (.clearLockout (spoutCode sp)) s =
        .next (answeredOnly s 0x10 ⟨.conditionPresent, [byteOf present]⟩)) ∧
    (c.state = .idle → c.lockout ≠ .empty → clear →
      exec (.clearLockout (spoutCode sp)) s =
        .next
          (replied s
            (({ s with sc := s.sc.set sp { c with lockout := .empty } } : State).notice fun v =>
              { v with lockout := v.lockout.set sp false })
            0x10 (okReply [c.lockout.byte])))

/-! ## Configuration and calibration -/

/-- CONFIG-STATION is refused BUSY, none of its fields stored, when it changes G while a grant is held or a spout waits.
Otherwise every field is stored, clamped to its range, in one step: G, the debounce time, the turnaround, the attention mask,
the report enables and the four auxiliary sources, whose outputs follow at once. The reply echoes what is stored, with CLAMPED
when a field was stored other than as sent, and is timed with the turnaround that stood before. An on/off field that is on is
echoed as 1: the model's reading (log entry 18). -/
def Obligations.ConfigStationStoresEveryField : Prop :=
  ∀ (s : State) (f : StationFields), Ready s →
    let g := max 1 (min f.g.toNat 4)
    let debounce := min f.debounce.toNat 250
    let turnaround := max 1 (min f.turnaround.toNat 50)
    let stored : StationFields :=
      { g := byteOf g, debounce := byteOf debounce, turnaround := byteOf turnaround
        mask := f.mask &&& 0x01FF, enables := f.enables &&& 0x3FFFFF
        aux := ⟨storedAs f.aux.x1, storedAs f.aux.x2, storedAs f.aux.x3, storedAs f.aux.x4⟩ }
    let clamped :=
      decide (stored.g ≠ f.g) || decide (stored.debounce ≠ f.debounce) ||
        decide (stored.turnaround ≠ f.turnaround) || sourceClamped f.aux.x1 ||
        sourceClamped f.aux.x2 || sourceClamped f.aux.x3 || sourceClamped f.aux.x4
    let busy := (∃ sp, s.fa.holders.get sp = true) ∨ s.fa.requests ≠ []
    (g ≠ s.fa.g → busy →
      exec (.configStation f) s = .next (answeredOnly s 0x02 ⟨.busy, []⟩)) ∧
    (g = s.fa.g ∨ ¬ busy →
      ∃ t, exec (.configStation f) s = .next t ∧
        t = { s with fa := t.fa, iob := t.iob, rq := t.rq, sl := t.sl } ∧
        t.fa = { s.fa with g := g } ∧
        t.sl =
          { answered s 0x02 (okOrClamped clamped (encodeStationFields stored)) with
            turnaround := turnaround } ∧
        t.iob =
          { s.iob with
            debounce := debounce, inputs := t.iob.inputs, feedHold := t.iob.feedHold
            airOk := t.iob.airOk, holdAck := t.iob.holdAck, attention := t.iob.attention
            aux :=
              ⟨resourced s.iob s.iob.aux.x1 f.aux.x1, resourced s.iob s.iob.aux.x2 f.aux.x2,
                resourced s.iob s.iob.aux.x3 f.aux.x3, resourced s.iob s.iob.aux.x4 f.aux.x4⟩ } ∧
        (∀ sp k,
          t.input (.spout sp k) =
            { s.input (.spout sp k) with
              report := f.enables.getLsbD (5 * (spoutCode sp).toNat + (inputCode (.spout sp k)).toNat) }) ∧
        t.iob.feedHold = { s.iob.feedHold with report := f.enables.getLsbD 20 } ∧
        t.iob.airOk = { s.iob.airOk with report := f.enables.getLsbD 21 } ∧
        t.rq = { s.rq with mask := t.rq.mask } ∧
        t.rq.mask.bits = (List.range 9).map f.mask.getLsbD)

/-- CONFIG-LANE stores its seven parameters, each clamped to its range, and echoes them with CLAMPED when one was stored other
than as sent; it is refused BUSY, nothing stored, when it changes the reconcile enable while the window is not CLOSED. The
window and its running timer keep what they have. An enable that is on is echoed as 1: the model's reading (log entry 18). -/
def Obligations.ConfigLaneStoresTheParameters : Prop :=
  ∀ (s : State) (l : Lane) (f : LaneFields), Ready s → f.lane = laneCode l →
    let u := s.lwu.get l
    let p : LaneParams :=
      { enable := decide (f.enable ≠ 0)
        nStable := max 1 (min f.nStable.toNat 50)
        tareTimeout := max 1 (min f.tareTimeout.toNat 120)
        grossTimeout := max 1 (min f.grossTimeout.toNat 120)
        acceptBand := max 1 (min f.acceptBand.toNat 100)
        alpha := min f.alpha.toNat 4
        nMin := max 500000 (min f.nMin.toNat 80000000) }
    let stored : LaneFields :=
      { lane := f.lane, enable := if f.enable = 0 then 0 else 1, nStable := byteOf p.nStable
        tareTimeout := byteOf p.tareTimeout, grossTimeout := byteOf p.grossTimeout
        acceptBand := byteOf p.acceptBand, alpha := byteOf p.alpha, nMin := .ofNat 32 p.nMin }
    let clamped := decide (stored ≠ { f with enable := stored.enable })
    (p.enable ≠ u.params.enable → u.window.state ≠ .closed →
      exec (.configLane f) s = .next (answeredOnly s 0x03 ⟨.busy, []⟩)) ∧
    (p.enable = u.params.enable ∨ u.window.state = .closed →
      exec (.configLane f) s =
        .next
          (replied s { s with lwu := s.lwu.set l { u with params := p } } 0x03
            (okOrClamped clamped (encodeLaneFields stored))))

/-- CONFIG-SPOUT of a spout that is IDLE with an empty queue stores every parameter clamped to its range, a settle max never
below the settle time, shortens a window longer than W and recomputes q_filt from what remains, clamps L to the new Lmax, and
sets the beacon's source and terminal; it echoes what it stores. In any other case it is refused BUSY and stores nothing.
An invert flag that is on is echoed as 1: the model's reading (log entry 18). -/
def Obligations.ConfigSpoutStoresTheParameters : Prop :=
  ∀ (s : State) (sp : Spout) (f : SpoutFields), Ready s → f.spout = spoutCode sp →
    let in_ := fun (lo hi v : Nat) => max lo (min v hi)
    let settle := in_ 500 20000 f.settle.toNat
    let p : SpoutParams :=
      { product := in_ 1 15 f.product.toNat, w := in_ 1 16 f.w.toNat
        zeroBand := in_ 0 4000 f.zeroBand.toNat, zeroTrack := in_ 1000 60000 f.zeroTrack.toNat
        prime := in_ 0 10000 f.prime.toNat, dribble := in_ 0 2000000 f.dribble.toNat
        flight := in_ 0 5000 f.flight.toNat, settle := settle
        settleMax := in_ settle 60000 f.settleMax.toNat, leak := in_ 0 20000 f.leak.toNat
        gateTravel := in_ 100 5000 f.gateTravel.toNat, gp := in_ 0 8 f.gp.toNat
        lmax := in_ 0 200000 f.lmax.toNat, adaptBand := in_ 0 500000 f.adaptBand.toNat
        overTol := in_ 0 1000000 f.overTol.toNat, underTol := in_ 0 1000000 f.underTol.toNat
        subLimit := in_ 2 100 f.subLimit.toNat, feedWait := in_ 1 1800 f.feedWait.toNat
        suspend := in_ 10 1800 f.suspend.toNat }
    let c := s.fc.get sp
    let c' : Fc :=
      { c with
        window := keepLast p.w c.window
        qFilt := if p.w < c.window.length then roundedMean (keepLast p.w c.window) else c.qFilt
        corr := max (-(p.lmax : Int)) (min c.corr p.lmax) }
    let rest := s.sc.get sp
    let idle := rest.state = .idle ∧ s.ot.queues.get sp = []
    let word := fun (v : Nat) => (BitVec.ofNat 16 v : BitVec 16)
    let long := fun (v : Nat) => (BitVec.ofNat 32 v : BitVec 32)
    let stored : SpoutFields :=
      { spout := f.spout, product := byteOf p.product, w := byteOf p.w, zeroBand := word p.zeroBand
        zeroTrack := word p.zeroTrack, prime := word p.prime, dribble := long p.dribble
        flight := word p.flight, settle := word p.settle, settleMax := word p.settleMax
        leak := word p.leak, gateTravel := word p.gateTravel, gp := byteOf p.gp, lmax := long p.lmax
        adaptBand := long p.adaptBand, overTol := long p.overTol, underTol := long p.underTol
        subLimit := byteOf p.subLimit, feedWait := word p.feedWait, suspend := word p.suspend
        beacon := storedAs f.beacon }
    let clamped :=
      decide (stored ≠ { f with beacon := { f.beacon with invert := stored.beacon.invert } })
    (¬ idle → exec (.configSpout f) s = .next (answeredOnly s 0x04 ⟨.busy, []⟩)) ∧
    (idle →
      exec (.configSpout f) s =
        .next
          (replied s
            { s with
              params := s.params.set sp p
              fc := s.fc.set sp c'
              iob :=
                { s.iob with
                  beacon :=
                    s.iob.beacon.set sp (resourced s.iob (s.iob.beacon.get sp) f.beacon) } }
            0x04 (okOrClamped clamped (encodeSpoutFields stored))))

/-- SET-CALIBRATION of a spout that is IDLE with an empty queue stores S and L clamped to their ranges and z as sent, restarts
a running zero-track timer, and echoes the three values; in any other case it is refused BUSY. ZERO of an idle spout with a
LIVE line and both closed switches made sets z to the mean of the counts held, records it as the last candidate, restarts the
timer, queues ZERO_CAPTURED when z changed, and answers with the old and the new z; its tests are made in that order. That L is
received and echoed in two's complement is the model's choice (log entry 30). -/
def Obligations.CalibrationRequests : Prop :=
  ∀ (s : State) (sp : Spout) (span corr : BitVec 32) (zero : BitVec 16), Ready s →
    let c := s.sc.get sp
    let f := s.fc.get sp
    let lmax : Int := (s.params.get sp).lmax
    let restarted := f.zeroTimer.map fun _ => s.now + (s.params.get sp).zeroTrack
    let f' : Fc :=
      { f with
        span := max 1 (min span.toNat 1048575)
        zero := zero.toNat
        corr := max (-lmax) (min corr.toInt lmax)
        zeroTimer := restarted }
    let made := s.level sp .coarseClosed = .active ∧ s.level sp .fineClosed = .active
    let failing :=
      (if s.level sp .coarseClosed = .active then 0 else 8) +
        (if s.level sp .fineClosed = .active then 0 else 16)
    let k := f.history.length
    let z := (f.history.sum + k / 2) / k
    let taken : State :=
      { s with
        fc := s.fc.set sp { f with zero := z, lastCandidate := some z, zeroTimer := restarted } }
    (c.state ≠ .idle ∨ s.ot.queues.get sp ≠ [] →
      exec (.setCalibration (spoutCode sp) span zero corr) s =
        .next (answeredOnly s 0x06 ⟨.busy, []⟩)) ∧
    (c.state = .idle → s.ot.queues.get sp = [] →
      exec (.setCalibration (spoutCode sp) span zero corr) s =
        .next
          (replied s { s with fc := s.fc.set sp f' } 0x06
            (okOrClamped (decide (f'.span ≠ span.toNat) || decide (f'.corr ≠ corr.toInt))
              (spoutCode sp ::
                (beBytes 4 f'.span ++ beBytes 2 f'.zero ++ beIntBytes 4 f'.corr))))) ∧
    (c.state ≠ .idle →
      exec (.zero (spoutCode sp)) s = .next (answeredOnly s 0x07 ⟨.notIdle, []⟩)) ∧
    (c.state = .idle → f.lineView = .lost →
      exec (.zero (spoutCode sp)) s = .next (answeredOnly s 0x07 ⟨.sensorLost, []⟩)) ∧
    (c.state = .idle → f.lineView = .live → ¬ made →
      exec (.zero (spoutCode sp)) s =
        .next (answeredOnly s 0x07 ⟨.permissive, [byteOf failing]⟩)) ∧
    (c.state = .idle → f.lineView = .live → made →
      (k = 0 →
        exec (.zero (spoutCode sp)) s =
          .next (answeredOnly s 0x07 (okReply (beBytes 2 f.zero ++ beBytes 2 f.zero)))) ∧
      (0 < k →
        exec (.zero (spoutCode sp)) s =
          .next
            (replied s
              (reportedIf (decide (z ≠ f.zero)) taken (.spout sp) (.zeroCaptured f.zero z k))
              0x07 (okReply (beBytes 2 f.zero ++ beBytes 2 z)))))

/-- SET-OUTPUTS sets the manual level of each of the eight outputs on when the set mask names it, off when only the clear
mask does, and keeps it when neither does. An output whose source is MANUAL follows at once; any other keeps its terminal. The
fixed outputs, the image and everything else stay as they are, and the reply carries the eight manual levels and the eight
terminal levels. -/
def Obligations.SetOutputsSetsManualLevels : Prop :=
  ∀ (s : State) (setMask clearMask : Byte), Ready s →
    let set1 := fun (n : Nat) (o : ConfigOut) =>
      let manual :=
        if setMask.getLsbD n then true else if clearMask.getLsbD n then false else o.manual
      { o with
        manual := manual
        terminal := if o.cfg.source = .manual then manual != o.cfg.invert else o.terminal }
    let b : Iob :=
      { s.iob with
        beacon :=
          ⟨set1 0 s.iob.beacon.a, set1 1 s.iob.beacon.b, set1 2 s.iob.beacon.c,
            set1 3 s.iob.beacon.d⟩
        aux := ⟨set1 4 s.iob.aux.x1, set1 5 s.iob.aux.x2, set1 6 s.iob.aux.x3, set1 7 s.iob.aux.x4⟩ }
    let bits := fun (level : ConfigOut → Bool) =>
      byteOf
        ((level b.beacon.a).toNat + 2 * (level b.beacon.b).toNat + 4 * (level b.beacon.c).toNat +
          8 * (level b.beacon.d).toNat + 16 * (level b.aux.x1).toNat + 32 * (level b.aux.x2).toNat +
          64 * (level b.aux.x3).toNat + 128 * (level b.aux.x4).toNat)
    exec (.setOutputs setMask clearMask) s =
      .next
        (replied s { s with iob := b } 0x0F
          (okReply [bits (fun o => o.manual), bits (fun o => o.terminal)]))

/-! ## The stages of a load -/

/-- FEED_WAIT, SUSPEND and PRIME expire. FEED_WAIT: the request is withdrawn and the order ends ABORTED at once with FEED_TIMEOUT.
SUSPEND: the request is withdrawn, the cause goes, and the abort settle begins with SUSPEND_TIMEOUT. Neither enters the lockout
set. PRIME: M is compared with thresholds formed afresh: at F the load settles without opening a gate, M written as its fine
cutoff mass; at C it opens the fine gate alone; else both, the aeration on. The grants that are then due are given to the spouts
that wait, in the same step; while none waits that is all. -/
def Obligations.WaitsAndPrimeEnd : Prop :=
  ∀ (s : State) (sp : Spout) (i : Fin 16) (t : Nat),
    let c := s.sc.get sp
    let late : State := { s with now := max s.now t }
    let ends := fun (cmd : Instr) (x : State) =>
      exec cmd s = .next (grantsGiven x) ∧ (x.fa.requests = [] → exec cmd s = .next x)
    let primed := ends (.primeExpiry sp)
    Running s → c.active = some i →
      (c.state = .waitFeed → c.stage = some ⟨.feedWait, t⟩ →
        ends (.feedWaitExpiry sp)
          (orderAborted (unrequested late sp) sp i { c.reasons with feedTimeout := true })) ∧
      (c.state = .suspended → c.stage = some ⟨.suspend, t⟩ →
        ends (.suspendExpiry sp)
          (settling (unrequested late sp) sp
            { c with reasons := { c.reasons with suspendTimeout := true }, cause := none }
            .aborting)) ∧
      (c.state = .aerate → c.stage = some ⟨.prime, t⟩ →
        ((reachedBy s sp i).fine = true → primed (cutOff late sp i)) ∧
        ((reachedBy s sp i).fine = false → (reachedBy s sp i).coarse = true →
          primed (movedTo late sp { c with state := .fine, stage := none } false true true)) ∧
        ((reachedBy s sp i).fine = false → (reachedBy s sp i).coarse = false →
          primed (movedTo late sp { c with state := .coarse, stage := none } true true true)))

/-- The settle decision. At or below the leak threshold the load ends: from SETTLE the order is DONE with its class, and when no
sample was substituted, it was never suspended and its error lies within the adapt band, L takes the learning step; from
ABORTING it is ABORTED with the reasons gathered. Above the threshold the settle is extended by 500 ms or to its deadline. At
the deadline GATE_LEAK locks the spout and the order is ABORTED. No grant is held in a settle, so none comes free; one that is due
all the same is given. -/
def Obligations.SettleDecidesTheEnd : Prop :=
  ∀ (s : State) (sp : Spout) (i : Fin 16) (t d : Nat),
    let c := s.sc.get sp
    let p := s.params.get sp
    let r := s.ot.slot i
    let late : State := { s with now := max s.now t }
    let e : Int := (r.mass : Int) - r.target
    let upper : Int := (r.overTol.getD p.overTol : Nat)
    let lower : Int := (r.underTol.getD p.underTol : Nat)
    let cls : FillClass := if upper < e then .overfill else if lower < -e then .underfill else .inTol
    let learns := decide (r.subCount = 0 ∧ r.suspCount = 0 ∧ e.natAbs ≤ p.adaptBand)
    let learned : State :=
      if learns then
        late.updFc sp fun f =>
          { f with corr := max (-(p.lmax : Int)) (min (f.corr + learningStep e p.gp) p.lmax) }
      else late
    let leaking := lockedFor late sp .gateLeak
    let next := fun (x : State) =>
      exec (.settleExpiry sp) s = .next (grantsGiven x) ∧
        (GrantsSettled s → s.fa.holders.get sp = false → exec (.settleExpiry sp) s = .next x)
    Running s → c.state = .settle ∨ c.state = .aborting → c.active = some i →
    c.stage = some ⟨.settle, t⟩ → c.deadline = some d →
      ((s.fc.get sp).qFilt ≤ p.leak → c.state = .settle →
        next
          (orderEnded learned sp i
            { r with state := .done, cls := some cls, endTime := some late.msTime }
            (.orderDone i cls r.mass learns r.marks))) ∧
      ((s.fc.get sp).qFilt ≤ p.leak → c.state = .aborting →
        next (orderAborted late sp i c.reasons)) ∧
      (p.leak < (s.fc.get sp).qFilt → max s.now t < d →
        next (late.updSc sp fun c => { c with stage := some ⟨.settle, min (max s.now t + 500) d⟩ })) ∧
      (p.leak < (s.fc.get sp).qFilt → d ≤ max s.now t →
        next (orderAborted leaking sp i { c.reasons with gateLeak := true }))

/-! ## Weighing windows -/

/-- In HUNT a byte from 0xC0 to 0xDF starts a partial weighbridge frame and any other byte, a character error and an expiry
change nothing; in COLLECT bytes are appended whatever their value; each byte collected restarts the 5 ms gap timer. A frame
that fails its check or is abandoned is counted, sets the stability count to 0, breaks a restore run in LOST and leaves the
bytes after its header re-examined; nothing else changes, the loss timer included. That an expiry in HUNT changes nothing is the
model's choice (log entry 9). -/
def Obligations.WeighbridgeLineFindsFrames : Prop :=
  ∀ (s : State) (l : Lane) (b : Byte),
    let rejected := fun (s : State) (f : Framing) =>
      s.updLwu l fun u =>
        { u with
          badCheck := min 65535 (u.badCheck + 1)
          stability := 0
          restoreRun := if u.line = .lost then 0 else u.restoreRun
          framing := f }
    Running s → GrantsSettled s →
      ((s.lwu.get l).framing = .hunt →
        (0xC0 ≤ b.toNat → b.toNat ≤ 0xDF →
          exec (.weighbridgeByteArrival l b) s =
            .next (s.updLwu l fun u => { u with framing := .collect [b] (s.now + 5) })) ∧
        (b.toNat < 0xC0 ∨ 0xDF < b.toNat → exec (.weighbridgeByteArrival l b) s = .next s) ∧
        exec (.weighbridgeCharacterError l) s = .next s ∧
        exec (.weighbridgeGapExpiry l) s = .next s) ∧
      (∀ bytes gap, (s.lwu.get l).framing = .collect bytes gap →
        (bytes.length < 4 →
          exec (.weighbridgeByteArrival l b) s =
            .next (s.updLwu l fun u => { u with framing := .collect (bytes ++ [b]) (s.now + 5) })) ∧
        (∃ f, Reexamined 0xC0 0xDF bytes.tail (s.now + 5) f ∧
          exec (.weighbridgeCharacterError l) s = .next (rejected s f)) ∧
        (∃ f, Reexamined 0xC0 0xDF bytes.tail (max s.now gap + 5) f ∧
          exec (.weighbridgeGapExpiry l) s = .next (rejected { s with now := max s.now gap } f)) ∧
        (∀ h g2 g1 g0, bytes = [h, g2, g1, g0] → h ^^^ g2 ^^^ g1 ^^^ g0 ≠ b →
          ∃ f, Reexamined 0xC0 0xDF [g2, g1, g0, b] (s.now + 5) f ∧
            exec (.weighbridgeByteArrival l b) s = .next (rejected s f)))

/-- A good weighbridge frame restarts the loss timer, sets the last gross and the stability count, and in LOST is one step of
the restore run, whose third step makes the line LIVE. When it is no stable reading, or the window is CLOSED or OPEN, that is
all. A stable reading in TARING becomes the tare: the window is OPEN and its claims are released, in spout order, into WAIT_FEED.
A stable reading in WEIGHING becomes the gross, and the window is judged with it: with no claim waiting it is CLOSED; with one, a new
window is created that is OPEN with the gross as its tare, and its claims are released. The grants that are due after a release are
given. -/
def Obligations.GoodWeighbridgeFrames : Prop :=
  ∀ (s : State) (l : Lane) (h g2 g1 g0 b : Byte) (gap : Nat),
    let u := s.lwu.get l
    let r := bridgeReadingOf h g2 g1 g0
    let heard := bridgeHeard s l r
    let judged := windowJudged heard l (some r.gross)
    let w := (judged.lwu.get l).window
    let next := fun (x : State) => exec (.weighbridgeByteArrival l b) s = .next x
    let claimsStand :=
      ∀ p, u.window.claims.get p = true → (s.sc.get (l.spout p)).state = .tare ∧ l.spout p ∉ s.fa.requests
    Running s → GrantsSettled s → u.framing = .collect [h, g2, g1, g0] gap →
    h ^^^ g2 ^^^ g1 ^^^ g0 = b →
      (stableBy u r = false ∨ u.window.state = .closed ∨ u.window.state = .opened → next heard) ∧
      (stableBy u r = true → u.window.state = .taring → claimsStand →
        let opened :=
          windowMoved heard l
            { u.window with
              state := .opened, tare := some r.gross, timer := none, claims := ⟨false, false⟩ }
        next (grantsGiven (claimsReleased opened l u.window.claims)) ∧
        (∀ p, u.window.claims = (⟨false, false⟩ : PerSide Bool).set p true → s.fa.condition ≠ .normal →
          next (claimReleased opened (l.spout p)))) ∧
      (stableBy u r = true → u.window.state = .weighing → u.window.claims = ⟨false, false⟩ →
        next (windowMoved judged l { w with state := .closed })) ∧
      (stableBy u r = true → u.window.state = .weighing → u.window.claims ≠ ⟨false, false⟩ → claimsStand →
        let opened :=
          windowMoved judged l
            { state := .opened
              number := (w.number + 1) % 65536
              tare := some r.gross
              claims := ⟨false, false⟩
              contrib := ⟨⟨0, 0, 0, false⟩, ⟨0, 0, 0, false⟩⟩
              bridgeLost := false
              gross := none
              timer := none }
        next (grantsGiven (claimsReleased opened l u.window.claims)) ∧
        (∀ p, u.window.claims = (⟨false, false⟩ : PerSide Bool).set p true → s.fa.condition ≠ .normal →
          next (claimReleased opened (l.spout p))))

/-- The loss timer restarts at 1,000 ms at each expiry. In LIVE the line goes LOST, the stability count and the restore run are
0, a window that is not CLOSED takes the weighbridge-lost flag, and WEIGHBRIDGE_LOST is queued; in LOST the restore run is
broken. With no timer running nothing changes (the model's choice, log entry 9). -/
def Obligations.WeighbridgeLossIsTimed : Prop :=
  ∀ (s : State) (l : Lane), Running s →
    let u := s.lwu.get l
    (u.lossTimer = none → exec (.lossTimerExpiry l) s = .next s) ∧
    (∀ t, u.lossTimer = some t →
      let late : State := { s with now := max s.now t }
      (u.line = .lost →
        exec (.lossTimerExpiry l) s =
          .next
            (late.updLwu l fun u => { u with lossTimer := some (max s.now t + 1000), restoreRun := 0 })) ∧
      (u.line = .live →
        exec (.lossTimerExpiry l) s =
          .next
            (reported
              (late.updLwu l fun u =>
                { u with
                  lossTimer := some (max s.now t + 1000), line := .lost, stability := 0, restoreRun := 0
                  window :=
                    { u.window with
                      bridgeLost := u.window.bridgeLost || decide (u.window.state ≠ .closed) } })
              (.lane l) (.weighbridgeLost u.badCheck))))

/-- The TARE timer's expiry opens the window without a tare, LANE_WEIGHING off, and releases the claims that wait, in spout order:
each spout enters WAIT_FEED with its timer and its feed request, in the same step, and the grants that are then due are given. A spout
whose claim waits alone while the feed condition is not NORMAL waits there; with no claim waiting the window opens and that is all. -/
def Obligations.TareTimerOpensWithoutATare : Prop :=
  ∀ (s : State) (l : Lane) (p : Side) (t : Nat),
    let u := s.lwu.get l
    let late : State := { s with now := max s.now t }
    let opened :=
      windowMoved late l
        { u.window with state := .opened, tare := none, timer := none, claims := ⟨false, false⟩ }
    let claimsStand :=
      ∀ p, u.window.claims.get p = true → (s.sc.get (l.spout p)).state = .tare ∧ l.spout p ∉ s.fa.requests
    Running s → u.window.timer = some ⟨.tare, t⟩ →
      (claimsStand →
        exec (.tareTimerExpiry l) s = .next (grantsGiven (claimsReleased opened l u.window.claims))) ∧
      (u.window.claims = ⟨false, false⟩ → GrantsSettled s →
        exec (.tareTimerExpiry l) s = .next opened) ∧
      (u.window.claims = (⟨false, false⟩ : PerSide Bool).set p true →
        (s.sc.get (l.spout p)).state = .tare → s.fa.condition ≠ .normal → l.spout p ∉ s.fa.requests →
          exec (.tareTimerExpiry l) s = .next (claimReleased opened (l.spout p)))

/-- The GROSS timer's expiry closes the window without a gross: its outcome by the ordered tests, the result record kept and
WEIGH_RESULT queued, the span unchanged unless the outcome is CORRECTED, which an absent gross excludes. With no claim waiting the
window is CLOSED; with one waiting, a new window is created and is TARING, the claim still waiting. -/
def Obligations.GrossTimerClosesTheWindow : Prop :=
  ∀ (s : State) (l : Lane) (t : Nat),
    let u := s.lwu.get l
    let late : State := { s with now := max s.now t }
    let judged := windowJudged late l none
    let w := (judged.lwu.get l).window
    Running s → GrantsSettled s → u.window.timer = some ⟨.gross, t⟩ →
      outcomeOf w u.params ≠ .corrected ∧ judged.fc = s.fc ∧
      (u.window.claims = ⟨false, false⟩ →
        exec (.grossTimerExpiry l) s = .next (windowMoved judged l { w with state := .closed })) ∧
      (u.window.claims ≠ ⟨false, false⟩ →
        exec (.grossTimerExpiry l) s =
          .next
            (windowMoved judged l
              { w with
                state := .taring
                number := (w.number + 1) % 65536
                tare := none
                contrib := ⟨⟨0, 0, 0, false⟩, ⟨0, 0, 0, false⟩⟩
                bridgeLost := decide (u.line = .lost)
                gross := none
                timer := some ⟨.tare, max s.now t + u.params.tareTimeout * 1000⟩ }))

/-! ## The Calibration Store -/

/-- SAVE-CALIBRATION is accepted in IDLE: the stored items are copied as they stand, the check word is left failing, and the
first part begins its 100 ms; in WRITING it is refused BUSY. The first part's completion begins the second, the second's puts
the copy in the image and begins the third. The third's completion ends the write: the image is valid and STORE_DONE is queued
when the memory holds what was written; it is not valid and STORE_FAILED is queued when it does not. A part that takes its
100 ms ends the write with the check word failing and STORE_FAILED. In IDLE these commands change nothing
(the model's choice, log entry 9; the operand of the third part's completion is log entry 10's). -/
def Obligations.SavesRunInThreeParts : Prop :=
  ∀ s : State,
    (Ready s → s.cs.store = .idle →
      exec .saveCalibration s =
        .next
          (replied s
            { s with
              cs :=
                { image := { s.cs.image with check := .failing }
                  store := .writing .overwriteCheck s.items (s.now + 100) } }
            0x12 (okReply []))) ∧
    (Ready s → s.cs.store ≠ .idle →
      exec .saveCalibration s = .next (answeredOnly s 0x12 ⟨.busy, []⟩)) ∧
    (Running s → s.cs.store = .idle →
      exec .storePartComplete s = .next s ∧ exec .storePartTimeout s = .next s ∧
        ∀ held, exec (.storeWriteComplete held) s = .next s) ∧
    (∀ part copy limit, Running s → s.cs.store = .writing part copy limit →
      let wrote := fun (m : Image) => ({ s with cs := ⟨m, .idle⟩ } : State)
      (part = .overwriteCheck →
        exec .storePartComplete s =
          .next { s with cs := { s.cs with store := .writing .writeItems copy (s.now + 100) } }) ∧
      (part = .writeItems →
        exec .storePartComplete s =
          .next
            { s with
              cs :=
                { image := { s.cs.image with items := copy }
                  store := .writing .writeCheck copy (s.now + 100) } }) ∧
      (part = .writeCheck →
        let good : Image := ⟨copy, .word (crc16 copy.bytes)⟩
        let bad : Image := ⟨copy, .failing⟩
        good.valid = true ∧ bad.valid = false ∧
        exec (.storeWriteComplete true) s = .next (reported (wrote good) .station .storeDone) ∧
        exec (.storeWriteComplete false) s = .next (reported (wrote bad) .station .storeFailed)) ∧
      exec .storePartTimeout s =
        .next
          (reported { wrote { s.cs.image with check := .failing } with now := max s.now limit }
            .station .storeFailed))

/-! ## Resets and restarts -/

/-- The supply, the RESET terminal and the WARM terminal. A supply fall begins a reset with the cause power-up: the outputs go
off and a write is cut off; a rise starts the 50 ms after which the supervisor lets go. A terminal's level is taken when it has
held for 1 ms, and an assertion of 10 ms then begins a reset at RESET, unless one is held, and makes one warm restart at WARM.
A held reset is left, by a cold start, when the supervisor has let go and RESET is released. That a supply fall during a reset
which RESET began is power-up too is the model's reading (log entry 19); a fall of a supply that has fallen is none (log entry 9);
that the 50 ms run after every rise, and that a WARM terminal asserted at the end of a reset must be seen released first, are the
model's choices (log entries 31, 32). -/
def Obligations.ResetsBeginAndEnd : Prop :=
  ∀ (s : State) (level : Bool),
    let r := s.rst
    let filtered := fun (t : Terminal) =>
      if t.raw = level then t
      else
        { t with raw := level, filter := if level = asserted t then none else some (s.now + 1) }
    (r.supplyOk = true →
      exec .supplyFall s =
        .next
          (resetBegun
            { s with rst := { r with supplyOk := false, supervisorHold := true, stable := none } }
            .powerUp)) ∧
    (r.supplyOk = false →
      exec .supplyFall s = .next s ∧
      exec .supplyRise s =
        .next { s with rst := { r with supplyOk := true, stable := some (s.now + 50) } }) ∧
    (∀ t, r.stable = some t →
      let late : State :=
        { s with now := max s.now t, rst := { r with supervisorHold := false, stable := none } }
      (r.held = none ∨ r.reset.filtered = true → exec .supplyStableExpiry s = .next late) ∧
      (∀ cause, r.held = some cause → r.reset.filtered = false →
        exec .supplyStableExpiry s = .next (late.coldStart cause))) ∧
    exec (.resetTerminalChange level) s = .next { s with rst := { r with reset := filtered r.reset } } ∧
    (∀ t, r.reset.filter = some t →
      let late : State :=
        { s with now := max s.now t, rst := { r with reset := filteredAt r.reset (max s.now t) } }
      (r.held = none ∨ r.supervisorHold = true ∨ r.reset.raw = true →
        exec .resetFilterExpiry s = .next late) ∧
      (∀ cause, r.held = some cause → r.supervisorHold = false → r.reset.raw = false →
        exec .resetFilterExpiry s = .next (late.coldStart cause))) ∧
    (∀ t, r.reset.assertion = some t →
      let late : State :=
        { s with now := max s.now t, rst := { r with reset := { r.reset with assertion := none } } }
      (r.held = none → exec .resetAssertExpiry s = .next (resetBegun late .resetTerminal)) ∧
      (r.held ≠ none → exec .resetAssertExpiry s = .next late)) ∧
    (Running s →
      exec (.warmTerminalChange level) s = .next { s with rst := { r with warm := filtered r.warm } } ∧
      (∀ t, r.warm.filter = some t →
        exec .warmFilterExpiry s =
          .next
            { s with now := max s.now t, rst := { r with warm := filteredAt r.warm (max s.now t) } }) ∧
      (∀ t, r.warm.assertion = some t →
        exec .warmAssertExpiry s =
          .next
            (({ s with
                now := max s.now t
                rst := { r with warm := { r.warm with assertion := none } } } : State).warmRestart
              .warmTerminal)))

/-- What a cold start leaves: the millisecond time 0, the straps latched, no report but RESTARTED(cold) and, with an image that
is not valid, STORE_DEFAULTS; every order slot free, every spout IDLE with an empty lockout set, every line LOST, every window
CLOSED with the number 0, no grant held and none asked for; every stored item at its owner as the image has it when it is
valid and as the defaults have it when it is not, the image kept; both gates of every spout closed as commanded and supervised;
every input unsettled with its
debounce timer running, or settled at once, with no latch and no INPUT_CHANGE, when the debounce time is 0; the WARM filter at rest,
its terminal taken as released, and as seen released when it is (log entries 20, 32). A cleared record's tag and spout are the
model's reading (log entry 6). -/
def Obligations.ColdStartLeavesTheColdState : Prop :=
  ∀ (s : State) (cause : ResetCause),
    let t := s.coldStart cause
    let m := if s.cs.image.valid then s.cs.image.items else Items.default
    t.items = m ∧ t.now = s.now ∧ t.msTime = 0 ∧ t.cs = ⟨s.cs.image, .idle⟩ ∧
    t.rst =
      { s.rst with
        held := none
        warm :=
          { raw := s.rst.warm.raw, filtered := false, filter := none, assertion := none
            seen := !s.rst.warm.raw } } ∧
    t.sl =
      { rx := .listen, tx := .idle, broken := 0, lengthErr := 0, crcErr := 0, dropped := 0
        address := if s.rst.strapAddress = 0 then 1 else s.rst.strapAddress.toNat
        rate := s.rst.strapRate.toNat, turnaround := m.station.turnaround } ∧
    t.rq.lost = 0 ∧ t.rq.mask = m.station.mask ∧
    (0 < m.station.debounce →
      t.rq.events =
        ⟨.station, 0, .restarted false cause⟩ ::
          (if s.cs.image.valid then [] else [⟨.station, 0, .storeDefaults⟩])) ∧
    (∀ i, t.ot.slot i = SlotRec.cleared) ∧
    (∀ sp,
      t.ot.queues.get sp = [] ∧ t.ot.lastEnded.get sp = none ∧
      (t.sc.get sp).state = .idle ∧ (t.sc.get sp).active = none ∧ (t.sc.get sp).grantHeld = false ∧
      (t.sc.get sp).stage = none ∧ (t.sc.get sp).deadline = none ∧
      (t.sc.get sp).lockout = .empty ∧ (t.sc.get sp).reasons = .empty ∧
      (t.sc.get sp).cause = none ∧ (t.sc.get sp).lineView = .lost ∧
      t.slr.get sp =
        { framing := .hunt, line := .lost, watch := none, subRun := 0, goodRun := 0, hold := []
          firstAcq := false, badCheck := 0, subCount := 0 } ∧
      t.params.get sp = (m.spouts.get sp).params ∧
      t.fc.get sp =
        { span := (m.spouts.get sp).span, zero := (m.spouts.get sp).zero, corr := (m.spouts.get sp).corr
          window := [], qFilt := 0, residue := 0, stray := 0, history := [], zeroTimer := none
          lastCandidate := none, lineView := .lost, active := none, idleView := true
          coarseView := (t.fc.get sp).coarseView, fineView := (t.fc.get sp).fineView } ∧
      t.fa.holders.get sp = false ∧ t.iob.coarseOut.get sp = false ∧ t.iob.fineOut.get sp = false ∧
      t.iob.aeration.get sp = false ∧
      (0 < m.station.debounce → ∀ g,
        t.gate sp g = ⟨.closing, some (s.now + (m.spouts.get sp).params.gateTravel)⟩)) ∧
    t.fa.requests = [] ∧ t.fa.g = m.station.g ∧
    (0 < m.station.debounce → t.fa.condition = .unknown) ∧
    (∀ l,
      t.lwu.get l =
        { framing := .hunt, line := .lost, lossTimer := none, restoreRun := 0, firstAcq := false
          badCheck := 0, stability := 0, lastGross := none, lastResult := none, params := m.lanes.get l
          window :=
            { state := .closed, number := 0, tare := none, claims := ⟨false, false⟩
              contrib := ⟨⟨0, 0, 0, false⟩, ⟨0, 0, 0, false⟩⟩, bridgeLost := false, gross := none
              timer := none } }) ∧
    (∀ i,
      (t.input i).raw = (s.input i).raw ∧ (t.input i).latch = false ∧
      (0 < m.station.debounce →
        (t.input i).filtered = .unsettled ∧
          (t.input i).timer = some (s.now + m.station.debounce)) ∧
      (m.station.debounce = 0 →
        (t.input i).filtered = Level.ofRaw (s.input i).raw ∧ (t.input i).timer = none)) ∧
    (∀ e ∈ t.rq.events, ∀ i level, e.body ≠ .inputChange i level)

/-- What a warm restart leaves, in a state whose orders are in their places. RESTART is answered OK in every state and its restart
waits for the reply. The restart sets the millisecond time to 0, begins the link anew, queues RESTARTED(warm) before any other
event, turns the fixed outputs off and empties the holders and the request list. Every load ends ABORTED as it stands, with the
reasons gathered and RESTART; other slots, the queues and an IDLE spout stay. A window that is not CLOSED ends ABANDONED with
the figures gathered, its number kept. The calibration, the parameters, the lines and the image stay. -/
def Obligations.WarmRestartEndsEveryLoad : Prop :=
  ∀ (s : State) (cause : ResetCause),
    let t := s.warmRestart cause
    (Ready s → exec .restart s = .next (answeredOnly s 0x13 (okReply []))) ∧
    (OrdersPlaced s →
      t.now = s.now ∧ t.msTime = 0 ∧ t.rst = s.rst ∧ t.slr = s.slr ∧ t.params = s.params ∧
      t.cs = s.cs ∧ t.rq.mask = s.rq.mask ∧ t.ot.queues = s.ot.queues ∧
      t.sl =
        { s.sl with
          rx := .listen, tx := .idle, broken := 0, lengthErr := 0, crcErr := 0, dropped := 0
          address := if s.rst.strapAddress = 0 then 1 else s.rst.strapAddress.toNat
          rate := s.rst.strapRate.toNat } ∧
      (s.rq.events.length < 32 →
        (s.rq.events ++ [⟨.station, 0, .restarted true cause⟩]) <+: t.rq.events) ∧
      (32 ≤ s.rq.events.length → t.rq.events = s.rq.events) ∧
      t.fa = { s.fa with holders := .fill false, requests := [] } ∧
      t.iob.coarseOut = .fill false ∧ t.iob.fineOut = .fill false ∧ t.iob.aeration = .fill false ∧
      (t.iob.holdAck = true ↔ s.fa.feedHoldView = .active) ∧
      (∀ i, t.input i = s.input i) ∧
      (∀ sp,
        (∀ g, t.gate sp g = gateAfter s sp g false) ∧
        ((s.sc.get sp).state = .idle →
          t.sc.get sp = s.sc.get sp ∧ t.fc.get sp = s.fc.get sp ∧
            t.ot.lastEnded.get sp = s.ot.lastEnded.get sp) ∧
        ((s.sc.get sp).state ≠ .idle →
          t.sc.get sp =
            { s.sc.get sp with
              state := .idle, active := none, grantHeld := false, stage := none, deadline := none
              cause := none, reasons := (t.sc.get sp).reasons } ∧
          t.fc.get sp =
            tracked { s.fc.get sp with active := none, idleView := true }
              (s.now + (s.params.get sp).zeroTrack) ∧
          t.ot.lastEnded.get sp = (s.sc.get sp).active)) ∧
      (∀ i,
        ((s.ot.slot i).state ≠ .active → t.ot.slot i = s.ot.slot i) ∧
        (∀ sp, (s.ot.slot i).state = .active → (s.ot.slot i).spout = some sp →
          t.ot.slot i =
            { s.ot.slot i with
              state := .aborted
              reasons := some { (s.sc.get sp).reasons with restart := true }
              endTime := some 0 })) ∧
      (∀ l,
        let u := s.lwu.get l
        let w := u.window
        (w.state = .closed → t.lwu.get l = u) ∧
        (w.state ≠ .closed →
          t.lwu.get l =
            { u with
              window := { w with state := .closed, timer := none, claims := ⟨false, false⟩ }
              lastResult :=
                some
                  { number := w.number, tare := w.tare, gross := w.gross, nm := metered w, nb := netMass w
                    contrib := w.contrib, bridgeLost := w.bridgeLost, outcome := .abandoned
                    corrected := none, newSpan := none } })))
end

