-- ==== Sys2Proof/Laws/State.lean ====
section
/-! SUPPORT. One lemma for each field and each update of State: what the update does to the field. All hold by rfl. -/

namespace Sys2Proof.Machine

variable (s : State)

@[simp] theorem State.updSlr_now (sp : Spout) (f : Slr → Slr) : (s.updSlr sp f).now = s.now := rfl
@[simp] theorem State.updSlr_msBase (sp : Spout) (f : Slr → Slr) :
    (s.updSlr sp f).msBase = s.msBase := rfl
@[simp] theorem State.updSlr_rst (sp : Spout) (f : Slr → Slr) : (s.updSlr sp f).rst = s.rst := rfl
@[simp] theorem State.updSlr_slr (sp : Spout) (f : Slr → Slr) :
    (s.updSlr sp f).slr = s.slr.set sp (f (s.slr.get sp)) := rfl
@[simp] theorem State.updSlr_fc (sp : Spout) (f : Slr → Slr) : (s.updSlr sp f).fc = s.fc := rfl
@[simp] theorem State.updSlr_iob (sp : Spout) (f : Slr → Slr) : (s.updSlr sp f).iob = s.iob := rfl
@[simp] theorem State.updSlr_ot (sp : Spout) (f : Slr → Slr) : (s.updSlr sp f).ot = s.ot := rfl
@[simp] theorem State.updSlr_sc (sp : Spout) (f : Slr → Slr) : (s.updSlr sp f).sc = s.sc := rfl
@[simp] theorem State.updSlr_params (sp : Spout) (f : Slr → Slr) :
    (s.updSlr sp f).params = s.params := rfl
@[simp] theorem State.updSlr_fa (sp : Spout) (f : Slr → Slr) : (s.updSlr sp f).fa = s.fa := rfl
@[simp] theorem State.updSlr_lwu (sp : Spout) (f : Slr → Slr) : (s.updSlr sp f).lwu = s.lwu := rfl
@[simp] theorem State.updSlr_sl (sp : Spout) (f : Slr → Slr) : (s.updSlr sp f).sl = s.sl := rfl
@[simp] theorem State.updSlr_rq (sp : Spout) (f : Slr → Slr) : (s.updSlr sp f).rq = s.rq := rfl
@[simp] theorem State.updSlr_cs (sp : Spout) (f : Slr → Slr) : (s.updSlr sp f).cs = s.cs := rfl
@[simp] theorem State.updSlr_pending (sp : Spout) (f : Slr → Slr) :
    (s.updSlr sp f).pending = s.pending := rfl

@[simp] theorem State.updFc_now (sp : Spout) (f : Fc → Fc) : (s.updFc sp f).now = s.now := rfl
@[simp] theorem State.updFc_msBase (sp : Spout) (f : Fc → Fc) :
    (s.updFc sp f).msBase = s.msBase := rfl
@[simp] theorem State.updFc_rst (sp : Spout) (f : Fc → Fc) : (s.updFc sp f).rst = s.rst := rfl
@[simp] theorem State.updFc_slr (sp : Spout) (f : Fc → Fc) : (s.updFc sp f).slr = s.slr := rfl
@[simp] theorem State.updFc_fc (sp : Spout) (f : Fc → Fc) :
    (s.updFc sp f).fc = s.fc.set sp (f (s.fc.get sp)) := rfl
@[simp] theorem State.updFc_iob (sp : Spout) (f : Fc → Fc) : (s.updFc sp f).iob = s.iob := rfl
@[simp] theorem State.updFc_ot (sp : Spout) (f : Fc → Fc) : (s.updFc sp f).ot = s.ot := rfl
@[simp] theorem State.updFc_sc (sp : Spout) (f : Fc → Fc) : (s.updFc sp f).sc = s.sc := rfl
@[simp] theorem State.updFc_params (sp : Spout) (f : Fc → Fc) :
    (s.updFc sp f).params = s.params := rfl
@[simp] theorem State.updFc_fa (sp : Spout) (f : Fc → Fc) : (s.updFc sp f).fa = s.fa := rfl
@[simp] theorem State.updFc_lwu (sp : Spout) (f : Fc → Fc) : (s.updFc sp f).lwu = s.lwu := rfl
@[simp] theorem State.updFc_sl (sp : Spout) (f : Fc → Fc) : (s.updFc sp f).sl = s.sl := rfl
@[simp] theorem State.updFc_rq (sp : Spout) (f : Fc → Fc) : (s.updFc sp f).rq = s.rq := rfl
@[simp] theorem State.updFc_cs (sp : Spout) (f : Fc → Fc) : (s.updFc sp f).cs = s.cs := rfl
@[simp] theorem State.updFc_pending (sp : Spout) (f : Fc → Fc) :
    (s.updFc sp f).pending = s.pending := rfl

@[simp] theorem State.updSc_now (sp : Spout) (f : Sc → Sc) : (s.updSc sp f).now = s.now := rfl
@[simp] theorem State.updSc_msBase (sp : Spout) (f : Sc → Sc) :
    (s.updSc sp f).msBase = s.msBase := rfl
@[simp] theorem State.updSc_rst (sp : Spout) (f : Sc → Sc) : (s.updSc sp f).rst = s.rst := rfl
@[simp] theorem State.updSc_slr (sp : Spout) (f : Sc → Sc) : (s.updSc sp f).slr = s.slr := rfl
@[simp] theorem State.updSc_fc (sp : Spout) (f : Sc → Sc) : (s.updSc sp f).fc = s.fc := rfl
@[simp] theorem State.updSc_iob (sp : Spout) (f : Sc → Sc) : (s.updSc sp f).iob = s.iob := rfl
@[simp] theorem State.updSc_ot (sp : Spout) (f : Sc → Sc) : (s.updSc sp f).ot = s.ot := rfl
@[simp] theorem State.updSc_sc (sp : Spout) (f : Sc → Sc) :
    (s.updSc sp f).sc = s.sc.set sp (f (s.sc.get sp)) := rfl
@[simp] theorem State.updSc_params (sp : Spout) (f : Sc → Sc) :
    (s.updSc sp f).params = s.params := rfl
@[simp] theorem State.updSc_fa (sp : Spout) (f : Sc → Sc) : (s.updSc sp f).fa = s.fa := rfl
@[simp] theorem State.updSc_lwu (sp : Spout) (f : Sc → Sc) : (s.updSc sp f).lwu = s.lwu := rfl
@[simp] theorem State.updSc_sl (sp : Spout) (f : Sc → Sc) : (s.updSc sp f).sl = s.sl := rfl
@[simp] theorem State.updSc_rq (sp : Spout) (f : Sc → Sc) : (s.updSc sp f).rq = s.rq := rfl
@[simp] theorem State.updSc_cs (sp : Spout) (f : Sc → Sc) : (s.updSc sp f).cs = s.cs := rfl
@[simp] theorem State.updSc_pending (sp : Spout) (f : Sc → Sc) :
    (s.updSc sp f).pending = s.pending := rfl

@[simp] theorem State.updLwu_now (l : Lane) (f : Lwu → Lwu) : (s.updLwu l f).now = s.now := rfl
@[simp] theorem State.updLwu_msBase (l : Lane) (f : Lwu → Lwu) :
    (s.updLwu l f).msBase = s.msBase := rfl
@[simp] theorem State.updLwu_rst (l : Lane) (f : Lwu → Lwu) : (s.updLwu l f).rst = s.rst := rfl
@[simp] theorem State.updLwu_slr (l : Lane) (f : Lwu → Lwu) : (s.updLwu l f).slr = s.slr := rfl
@[simp] theorem State.updLwu_fc (l : Lane) (f : Lwu → Lwu) : (s.updLwu l f).fc = s.fc := rfl
@[simp] theorem State.updLwu_iob (l : Lane) (f : Lwu → Lwu) : (s.updLwu l f).iob = s.iob := rfl
@[simp] theorem State.updLwu_ot (l : Lane) (f : Lwu → Lwu) : (s.updLwu l f).ot = s.ot := rfl
@[simp] theorem State.updLwu_sc (l : Lane) (f : Lwu → Lwu) : (s.updLwu l f).sc = s.sc := rfl
@[simp] theorem State.updLwu_params (l : Lane) (f : Lwu → Lwu) :
    (s.updLwu l f).params = s.params := rfl
@[simp] theorem State.updLwu_fa (l : Lane) (f : Lwu → Lwu) : (s.updLwu l f).fa = s.fa := rfl
@[simp] theorem State.updLwu_lwu (l : Lane) (f : Lwu → Lwu) :
    (s.updLwu l f).lwu = s.lwu.set l (f (s.lwu.get l)) := rfl
@[simp] theorem State.updLwu_sl (l : Lane) (f : Lwu → Lwu) : (s.updLwu l f).sl = s.sl := rfl
@[simp] theorem State.updLwu_rq (l : Lane) (f : Lwu → Lwu) : (s.updLwu l f).rq = s.rq := rfl
@[simp] theorem State.updLwu_cs (l : Lane) (f : Lwu → Lwu) : (s.updLwu l f).cs = s.cs := rfl
@[simp] theorem State.updLwu_pending (l : Lane) (f : Lwu → Lwu) :
    (s.updLwu l f).pending = s.pending := rfl

@[simp] theorem State.updWindow_now (l : Lane) (f : Window → Window) :
    (s.updWindow l f).now = s.now := rfl
@[simp] theorem State.updWindow_msBase (l : Lane) (f : Window → Window) :
    (s.updWindow l f).msBase = s.msBase := rfl
@[simp] theorem State.updWindow_rst (l : Lane) (f : Window → Window) :
    (s.updWindow l f).rst = s.rst := rfl
@[simp] theorem State.updWindow_slr (l : Lane) (f : Window → Window) :
    (s.updWindow l f).slr = s.slr := rfl
@[simp] theorem State.updWindow_fc (l : Lane) (f : Window → Window) :
    (s.updWindow l f).fc = s.fc := rfl
@[simp] theorem State.updWindow_iob (l : Lane) (f : Window → Window) :
    (s.updWindow l f).iob = s.iob := rfl
@[simp] theorem State.updWindow_ot (l : Lane) (f : Window → Window) :
    (s.updWindow l f).ot = s.ot := rfl
@[simp] theorem State.updWindow_sc (l : Lane) (f : Window → Window) :
    (s.updWindow l f).sc = s.sc := rfl
@[simp] theorem State.updWindow_params (l : Lane) (f : Window → Window) :
    (s.updWindow l f).params = s.params := rfl
@[simp] theorem State.updWindow_fa (l : Lane) (f : Window → Window) :
    (s.updWindow l f).fa = s.fa := rfl
@[simp] theorem State.updWindow_lwu (l : Lane) (f : Window → Window) :
    (s.updWindow l f).lwu = s.lwu.set l { s.lwu.get l with window := f (s.lwu.get l).window } := rfl
@[simp] theorem State.updWindow_sl (l : Lane) (f : Window → Window) :
    (s.updWindow l f).sl = s.sl := rfl
@[simp] theorem State.updWindow_rq (l : Lane) (f : Window → Window) :
    (s.updWindow l f).rq = s.rq := rfl
@[simp] theorem State.updWindow_cs (l : Lane) (f : Window → Window) :
    (s.updWindow l f).cs = s.cs := rfl
@[simp] theorem State.updWindow_pending (l : Lane) (f : Window → Window) :
    (s.updWindow l f).pending = s.pending := rfl

@[simp] theorem State.updIob_now (f : Iob → Iob) : (s.updIob f).now = s.now := rfl
@[simp] theorem State.updIob_msBase (f : Iob → Iob) : (s.updIob f).msBase = s.msBase := rfl
@[simp] theorem State.updIob_rst (f : Iob → Iob) : (s.updIob f).rst = s.rst := rfl
@[simp] theorem State.updIob_slr (f : Iob → Iob) : (s.updIob f).slr = s.slr := rfl
@[simp] theorem State.updIob_fc (f : Iob → Iob) : (s.updIob f).fc = s.fc := rfl
@[simp] theorem State.updIob_iob (f : Iob → Iob) : (s.updIob f).iob = f s.iob := rfl
@[simp] theorem State.updIob_ot (f : Iob → Iob) : (s.updIob f).ot = s.ot := rfl
@[simp] theorem State.updIob_sc (f : Iob → Iob) : (s.updIob f).sc = s.sc := rfl
@[simp] theorem State.updIob_params (f : Iob → Iob) : (s.updIob f).params = s.params := rfl
@[simp] theorem State.updIob_fa (f : Iob → Iob) : (s.updIob f).fa = s.fa := rfl
@[simp] theorem State.updIob_lwu (f : Iob → Iob) : (s.updIob f).lwu = s.lwu := rfl
@[simp] theorem State.updIob_sl (f : Iob → Iob) : (s.updIob f).sl = s.sl := rfl
@[simp] theorem State.updIob_rq (f : Iob → Iob) : (s.updIob f).rq = s.rq := rfl
@[simp] theorem State.updIob_cs (f : Iob → Iob) : (s.updIob f).cs = s.cs := rfl
@[simp] theorem State.updIob_pending (f : Iob → Iob) : (s.updIob f).pending = s.pending := rfl

@[simp] theorem State.updOt_now (f : Ot → Ot) : (s.updOt f).now = s.now := rfl
@[simp] theorem State.updOt_msBase (f : Ot → Ot) : (s.updOt f).msBase = s.msBase := rfl
@[simp] theorem State.updOt_rst (f : Ot → Ot) : (s.updOt f).rst = s.rst := rfl
@[simp] theorem State.updOt_slr (f : Ot → Ot) : (s.updOt f).slr = s.slr := rfl
@[simp] theorem State.updOt_fc (f : Ot → Ot) : (s.updOt f).fc = s.fc := rfl
@[simp] theorem State.updOt_iob (f : Ot → Ot) : (s.updOt f).iob = s.iob := rfl
@[simp] theorem State.updOt_ot (f : Ot → Ot) : (s.updOt f).ot = f s.ot := rfl
@[simp] theorem State.updOt_sc (f : Ot → Ot) : (s.updOt f).sc = s.sc := rfl
@[simp] theorem State.updOt_params (f : Ot → Ot) : (s.updOt f).params = s.params := rfl
@[simp] theorem State.updOt_fa (f : Ot → Ot) : (s.updOt f).fa = s.fa := rfl
@[simp] theorem State.updOt_lwu (f : Ot → Ot) : (s.updOt f).lwu = s.lwu := rfl
@[simp] theorem State.updOt_sl (f : Ot → Ot) : (s.updOt f).sl = s.sl := rfl
@[simp] theorem State.updOt_rq (f : Ot → Ot) : (s.updOt f).rq = s.rq := rfl
@[simp] theorem State.updOt_cs (f : Ot → Ot) : (s.updOt f).cs = s.cs := rfl
@[simp] theorem State.updOt_pending (f : Ot → Ot) : (s.updOt f).pending = s.pending := rfl

@[simp] theorem State.updSl_now (f : Sl → Sl) : (s.updSl f).now = s.now := rfl
@[simp] theorem State.updSl_msBase (f : Sl → Sl) : (s.updSl f).msBase = s.msBase := rfl
@[simp] theorem State.updSl_rst (f : Sl → Sl) : (s.updSl f).rst = s.rst := rfl
@[simp] theorem State.updSl_slr (f : Sl → Sl) : (s.updSl f).slr = s.slr := rfl
@[simp] theorem State.updSl_fc (f : Sl → Sl) : (s.updSl f).fc = s.fc := rfl
@[simp] theorem State.updSl_iob (f : Sl → Sl) : (s.updSl f).iob = s.iob := rfl
@[simp] theorem State.updSl_ot (f : Sl → Sl) : (s.updSl f).ot = s.ot := rfl
@[simp] theorem State.updSl_sc (f : Sl → Sl) : (s.updSl f).sc = s.sc := rfl
@[simp] theorem State.updSl_params (f : Sl → Sl) : (s.updSl f).params = s.params := rfl
@[simp] theorem State.updSl_fa (f : Sl → Sl) : (s.updSl f).fa = s.fa := rfl
@[simp] theorem State.updSl_lwu (f : Sl → Sl) : (s.updSl f).lwu = s.lwu := rfl
@[simp] theorem State.updSl_sl (f : Sl → Sl) : (s.updSl f).sl = f s.sl := rfl
@[simp] theorem State.updSl_rq (f : Sl → Sl) : (s.updSl f).rq = s.rq := rfl
@[simp] theorem State.updSl_cs (f : Sl → Sl) : (s.updSl f).cs = s.cs := rfl
@[simp] theorem State.updSl_pending (f : Sl → Sl) : (s.updSl f).pending = s.pending := rfl

@[simp] theorem State.updRst_now (f : Resets → Resets) : (s.updRst f).now = s.now := rfl
@[simp] theorem State.updRst_msBase (f : Resets → Resets) : (s.updRst f).msBase = s.msBase := rfl
@[simp] theorem State.updRst_rst (f : Resets → Resets) : (s.updRst f).rst = f s.rst := rfl
@[simp] theorem State.updRst_slr (f : Resets → Resets) : (s.updRst f).slr = s.slr := rfl
@[simp] theorem State.updRst_fc (f : Resets → Resets) : (s.updRst f).fc = s.fc := rfl
@[simp] theorem State.updRst_iob (f : Resets → Resets) : (s.updRst f).iob = s.iob := rfl
@[simp] theorem State.updRst_ot (f : Resets → Resets) : (s.updRst f).ot = s.ot := rfl
@[simp] theorem State.updRst_sc (f : Resets → Resets) : (s.updRst f).sc = s.sc := rfl
@[simp] theorem State.updRst_params (f : Resets → Resets) : (s.updRst f).params = s.params := rfl
@[simp] theorem State.updRst_fa (f : Resets → Resets) : (s.updRst f).fa = s.fa := rfl
@[simp] theorem State.updRst_lwu (f : Resets → Resets) : (s.updRst f).lwu = s.lwu := rfl
@[simp] theorem State.updRst_sl (f : Resets → Resets) : (s.updRst f).sl = s.sl := rfl
@[simp] theorem State.updRst_rq (f : Resets → Resets) : (s.updRst f).rq = s.rq := rfl
@[simp] theorem State.updRst_cs (f : Resets → Resets) : (s.updRst f).cs = s.cs := rfl
@[simp] theorem State.updRst_pending (f : Resets → Resets) : (s.updRst f).pending = s.pending := rfl

@[simp] theorem State.updCs_now (f : Cs → Cs) : (s.updCs f).now = s.now := rfl
@[simp] theorem State.updCs_msBase (f : Cs → Cs) : (s.updCs f).msBase = s.msBase := rfl
@[simp] theorem State.updCs_rst (f : Cs → Cs) : (s.updCs f).rst = s.rst := rfl
@[simp] theorem State.updCs_slr (f : Cs → Cs) : (s.updCs f).slr = s.slr := rfl
@[simp] theorem State.updCs_fc (f : Cs → Cs) : (s.updCs f).fc = s.fc := rfl
@[simp] theorem State.updCs_iob (f : Cs → Cs) : (s.updCs f).iob = s.iob := rfl
@[simp] theorem State.updCs_ot (f : Cs → Cs) : (s.updCs f).ot = s.ot := rfl
@[simp] theorem State.updCs_sc (f : Cs → Cs) : (s.updCs f).sc = s.sc := rfl
@[simp] theorem State.updCs_params (f : Cs → Cs) : (s.updCs f).params = s.params := rfl
@[simp] theorem State.updCs_fa (f : Cs → Cs) : (s.updCs f).fa = s.fa := rfl
@[simp] theorem State.updCs_lwu (f : Cs → Cs) : (s.updCs f).lwu = s.lwu := rfl
@[simp] theorem State.updCs_sl (f : Cs → Cs) : (s.updCs f).sl = s.sl := rfl
@[simp] theorem State.updCs_rq (f : Cs → Cs) : (s.updCs f).rq = s.rq := rfl
@[simp] theorem State.updCs_cs (f : Cs → Cs) : (s.updCs f).cs = f s.cs := rfl
@[simp] theorem State.updCs_pending (f : Cs → Cs) : (s.updCs f).pending = s.pending := rfl

@[simp] theorem State.updSlot_now (i : Fin 16) (f : SlotRec → SlotRec) :
    (s.updSlot i f).now = s.now := rfl
@[simp] theorem State.updSlot_msBase (i : Fin 16) (f : SlotRec → SlotRec) :
    (s.updSlot i f).msBase = s.msBase := rfl
@[simp] theorem State.updSlot_rst (i : Fin 16) (f : SlotRec → SlotRec) :
    (s.updSlot i f).rst = s.rst := rfl
@[simp] theorem State.updSlot_slr (i : Fin 16) (f : SlotRec → SlotRec) :
    (s.updSlot i f).slr = s.slr := rfl
@[simp] theorem State.updSlot_fc (i : Fin 16) (f : SlotRec → SlotRec) :
    (s.updSlot i f).fc = s.fc := rfl
@[simp] theorem State.updSlot_iob (i : Fin 16) (f : SlotRec → SlotRec) :
    (s.updSlot i f).iob = s.iob := rfl
@[simp] theorem State.updSlot_ot (i : Fin 16) (f : SlotRec → SlotRec) :
    (s.updSlot i f).ot = s.ot.setSlot i (f (s.ot.slot i)) := rfl
@[simp] theorem State.updSlot_sc (i : Fin 16) (f : SlotRec → SlotRec) :
    (s.updSlot i f).sc = s.sc := rfl
@[simp] theorem State.updSlot_params (i : Fin 16) (f : SlotRec → SlotRec) :
    (s.updSlot i f).params = s.params := rfl
@[simp] theorem State.updSlot_fa (i : Fin 16) (f : SlotRec → SlotRec) :
    (s.updSlot i f).fa = s.fa := rfl
@[simp] theorem State.updSlot_lwu (i : Fin 16) (f : SlotRec → SlotRec) :
    (s.updSlot i f).lwu = s.lwu := rfl
@[simp] theorem State.updSlot_sl (i : Fin 16) (f : SlotRec → SlotRec) :
    (s.updSlot i f).sl = s.sl := rfl
@[simp] theorem State.updSlot_rq (i : Fin 16) (f : SlotRec → SlotRec) :
    (s.updSlot i f).rq = s.rq := rfl
@[simp] theorem State.updSlot_cs (i : Fin 16) (f : SlotRec → SlotRec) :
    (s.updSlot i f).cs = s.cs := rfl
@[simp] theorem State.updSlot_pending (i : Fin 16) (f : SlotRec → SlotRec) :
    (s.updSlot i f).pending = s.pending := rfl

@[simp] theorem State.updRq_now (f : Rq → Rq) : (s.updRq f).now = s.now := rfl
@[simp] theorem State.updRq_msBase (f : Rq → Rq) : (s.updRq f).msBase = s.msBase := rfl
@[simp] theorem State.updRq_rst (f : Rq → Rq) : (s.updRq f).rst = s.rst := rfl
@[simp] theorem State.updRq_slr (f : Rq → Rq) : (s.updRq f).slr = s.slr := rfl
@[simp] theorem State.updRq_fc (f : Rq → Rq) : (s.updRq f).fc = s.fc := rfl
@[simp] theorem State.updRq_iob (f : Rq → Rq) :
    (s.updRq f).iob = { s.iob with attention := (f s.rq).attention } := rfl
@[simp] theorem State.updRq_ot (f : Rq → Rq) : (s.updRq f).ot = s.ot := rfl
@[simp] theorem State.updRq_sc (f : Rq → Rq) : (s.updRq f).sc = s.sc := rfl
@[simp] theorem State.updRq_params (f : Rq → Rq) : (s.updRq f).params = s.params := rfl
@[simp] theorem State.updRq_fa (f : Rq → Rq) : (s.updRq f).fa = s.fa := rfl
@[simp] theorem State.updRq_lwu (f : Rq → Rq) : (s.updRq f).lwu = s.lwu := rfl
@[simp] theorem State.updRq_sl (f : Rq → Rq) : (s.updRq f).sl = s.sl := rfl
@[simp] theorem State.updRq_rq (f : Rq → Rq) : (s.updRq f).rq = f s.rq := rfl
@[simp] theorem State.updRq_cs (f : Rq → Rq) : (s.updRq f).cs = s.cs := rfl
@[simp] theorem State.updRq_pending (f : Rq → Rq) : (s.updRq f).pending = s.pending := rfl

@[simp] theorem State.updFa_now (f : Fa → Fa) : (s.updFa f).now = s.now := rfl
@[simp] theorem State.updFa_msBase (f : Fa → Fa) : (s.updFa f).msBase = s.msBase := rfl
@[simp] theorem State.updFa_rst (f : Fa → Fa) : (s.updFa f).rst = s.rst := rfl
@[simp] theorem State.updFa_slr (f : Fa → Fa) : (s.updFa f).slr = s.slr := rfl
@[simp] theorem State.updFa_fc (f : Fa → Fa) : (s.updFa f).fc = s.fc := rfl
@[simp] theorem State.updFa_iob (f : Fa → Fa) :
    (s.updFa f).iob = { s.iob with holdAck := (f s.fa).holdAck } := rfl
@[simp] theorem State.updFa_ot (f : Fa → Fa) : (s.updFa f).ot = s.ot := rfl
@[simp] theorem State.updFa_sc (f : Fa → Fa) : (s.updFa f).sc = s.sc := rfl
@[simp] theorem State.updFa_params (f : Fa → Fa) : (s.updFa f).params = s.params := rfl
@[simp] theorem State.updFa_fa (f : Fa → Fa) : (s.updFa f).fa = f s.fa := rfl
@[simp] theorem State.updFa_lwu (f : Fa → Fa) : (s.updFa f).lwu = s.lwu := rfl
@[simp] theorem State.updFa_sl (f : Fa → Fa) : (s.updFa f).sl = s.sl := rfl
@[simp] theorem State.updFa_rq (f : Fa → Fa) : (s.updFa f).rq = s.rq := rfl
@[simp] theorem State.updFa_cs (f : Fa → Fa) : (s.updFa f).cs = s.cs := rfl
@[simp] theorem State.updFa_pending (f : Fa → Fa) : (s.updFa f).pending = s.pending := rfl

@[simp] theorem State.reach_now (e : Nat) : (s.reach e).now = max s.now e := rfl
@[simp] theorem State.reach_msBase (e : Nat) : (s.reach e).msBase = s.msBase := rfl
@[simp] theorem State.reach_rst (e : Nat) : (s.reach e).rst = s.rst := rfl
@[simp] theorem State.reach_slr (e : Nat) : (s.reach e).slr = s.slr := rfl
@[simp] theorem State.reach_fc (e : Nat) : (s.reach e).fc = s.fc := rfl
@[simp] theorem State.reach_iob (e : Nat) : (s.reach e).iob = s.iob := rfl
@[simp] theorem State.reach_ot (e : Nat) : (s.reach e).ot = s.ot := rfl
@[simp] theorem State.reach_sc (e : Nat) : (s.reach e).sc = s.sc := rfl
@[simp] theorem State.reach_params (e : Nat) : (s.reach e).params = s.params := rfl
@[simp] theorem State.reach_fa (e : Nat) : (s.reach e).fa = s.fa := rfl
@[simp] theorem State.reach_lwu (e : Nat) : (s.reach e).lwu = s.lwu := rfl
@[simp] theorem State.reach_sl (e : Nat) : (s.reach e).sl = s.sl := rfl
@[simp] theorem State.reach_rq (e : Nat) : (s.reach e).rq = s.rq := rfl
@[simp] theorem State.reach_cs (e : Nat) : (s.reach e).cs = s.cs := rfl
@[simp] theorem State.reach_pending (e : Nat) : (s.reach e).pending = s.pending := rfl

@[simp] theorem State.pushEvent_now (src : EventSource) (b : EventBody) :
    (s.pushEvent src b).now = s.now := rfl
@[simp] theorem State.pushEvent_msBase (src : EventSource) (b : EventBody) :
    (s.pushEvent src b).msBase = s.msBase := rfl
@[simp] theorem State.pushEvent_rst (src : EventSource) (b : EventBody) :
    (s.pushEvent src b).rst = s.rst := rfl
@[simp] theorem State.pushEvent_slr (src : EventSource) (b : EventBody) :
    (s.pushEvent src b).slr = s.slr := rfl
@[simp] theorem State.pushEvent_fc (src : EventSource) (b : EventBody) :
    (s.pushEvent src b).fc = s.fc := rfl
@[simp] theorem State.pushEvent_iob (src : EventSource) (b : EventBody) :
    (s.pushEvent src b).iob = { s.iob with attention := (s.rq.push ⟨src, s.msTime, b⟩).attention } := rfl
@[simp] theorem State.pushEvent_ot (src : EventSource) (b : EventBody) :
    (s.pushEvent src b).ot = s.ot := rfl
@[simp] theorem State.pushEvent_sc (src : EventSource) (b : EventBody) :
    (s.pushEvent src b).sc = s.sc := rfl
@[simp] theorem State.pushEvent_params (src : EventSource) (b : EventBody) :
    (s.pushEvent src b).params = s.params := rfl
@[simp] theorem State.pushEvent_fa (src : EventSource) (b : EventBody) :
    (s.pushEvent src b).fa = s.fa := rfl
@[simp] theorem State.pushEvent_lwu (src : EventSource) (b : EventBody) :
    (s.pushEvent src b).lwu = s.lwu := rfl
@[simp] theorem State.pushEvent_sl (src : EventSource) (b : EventBody) :
    (s.pushEvent src b).sl = s.sl := rfl
@[simp] theorem State.pushEvent_rq (src : EventSource) (b : EventBody) :
    (s.pushEvent src b).rq = s.rq.push ⟨src, s.msTime, b⟩ := rfl
@[simp] theorem State.pushEvent_cs (src : EventSource) (b : EventBody) :
    (s.pushEvent src b).cs = s.cs := rfl
@[simp] theorem State.pushEvent_pending (src : EventSource) (b : EventBody) :
    (s.pushEvent src b).pending = s.pending := rfl

@[simp] theorem State.notice_now (f : SourceViews → SourceViews) : (s.notice f).now = s.now := rfl
@[simp] theorem State.notice_msBase (f : SourceViews → SourceViews) :
    (s.notice f).msBase = s.msBase := rfl
@[simp] theorem State.notice_rst (f : SourceViews → SourceViews) : (s.notice f).rst = s.rst := rfl
@[simp] theorem State.notice_slr (f : SourceViews → SourceViews) : (s.notice f).slr = s.slr := rfl
@[simp] theorem State.notice_fc (f : SourceViews → SourceViews) : (s.notice f).fc = s.fc := rfl
@[simp] theorem State.notice_iob (f : SourceViews → SourceViews) :
    (s.notice f).iob = Iob.recompute { s.iob with views := f s.iob.views } := rfl
@[simp] theorem State.notice_ot (f : SourceViews → SourceViews) : (s.notice f).ot = s.ot := rfl
@[simp] theorem State.notice_sc (f : SourceViews → SourceViews) : (s.notice f).sc = s.sc := rfl
@[simp] theorem State.notice_params (f : SourceViews → SourceViews) :
    (s.notice f).params = s.params := rfl
@[simp] theorem State.notice_fa (f : SourceViews → SourceViews) : (s.notice f).fa = s.fa := rfl
@[simp] theorem State.notice_lwu (f : SourceViews → SourceViews) : (s.notice f).lwu = s.lwu := rfl
@[simp] theorem State.notice_sl (f : SourceViews → SourceViews) : (s.notice f).sl = s.sl := rfl
@[simp] theorem State.notice_rq (f : SourceViews → SourceViews) : (s.notice f).rq = s.rq := rfl
@[simp] theorem State.notice_cs (f : SourceViews → SourceViews) : (s.notice f).cs = s.cs := rfl
@[simp] theorem State.notice_pending (f : SourceViews → SourceViews) :
    (s.notice f).pending = s.pending := rfl

@[simp] theorem State.setGate_now (sp : Spout) (g : Gate) (v : GateSup) :
    (s.setGate sp g v).now = s.now := rfl
@[simp] theorem State.setGate_msBase (sp : Spout) (g : Gate) (v : GateSup) :
    (s.setGate sp g v).msBase = s.msBase := rfl
@[simp] theorem State.setGate_rst (sp : Spout) (g : Gate) (v : GateSup) :
    (s.setGate sp g v).rst = s.rst := rfl
@[simp] theorem State.setGate_slr (sp : Spout) (g : Gate) (v : GateSup) :
    (s.setGate sp g v).slr = s.slr := rfl
@[simp] theorem State.setGate_fc (sp : Spout) (g : Gate) (v : GateSup) :
    (s.setGate sp g v).fc = s.fc := rfl
@[simp] theorem State.setGate_iob (sp : Spout) (g : Gate) (v : GateSup) :
    (s.setGate sp g v).iob = { s.iob with gates := s.iob.gates.set sp ((s.iob.gates.get sp).set g v) } := rfl
@[simp] theorem State.setGate_ot (sp : Spout) (g : Gate) (v : GateSup) :
    (s.setGate sp g v).ot = s.ot := rfl
@[simp] theorem State.setGate_sc (sp : Spout) (g : Gate) (v : GateSup) :
    (s.setGate sp g v).sc = s.sc := rfl
@[simp] theorem State.setGate_params (sp : Spout) (g : Gate) (v : GateSup) :
    (s.setGate sp g v).params = s.params := rfl
@[simp] theorem State.setGate_fa (sp : Spout) (g : Gate) (v : GateSup) :
    (s.setGate sp g v).fa = s.fa := rfl
@[simp] theorem State.setGate_lwu (sp : Spout) (g : Gate) (v : GateSup) :
    (s.setGate sp g v).lwu = s.lwu := rfl
@[simp] theorem State.setGate_sl (sp : Spout) (g : Gate) (v : GateSup) :
    (s.setGate sp g v).sl = s.sl := rfl
@[simp] theorem State.setGate_rq (sp : Spout) (g : Gate) (v : GateSup) :
    (s.setGate sp g v).rq = s.rq := rfl
@[simp] theorem State.setGate_cs (sp : Spout) (g : Gate) (v : GateSup) :
    (s.setGate sp g v).cs = s.cs := rfl
@[simp] theorem State.setGate_pending (sp : Spout) (g : Gate) (v : GateSup) :
    (s.setGate sp g v).pending = s.pending := rfl

@[simp] theorem State.setStage_now (sp : Spout) (t : Option StageTimer) :
    (s.setStage sp t).now = s.now := rfl
@[simp] theorem State.setStage_msBase (sp : Spout) (t : Option StageTimer) :
    (s.setStage sp t).msBase = s.msBase := rfl
@[simp] theorem State.setStage_rst (sp : Spout) (t : Option StageTimer) :
    (s.setStage sp t).rst = s.rst := rfl
@[simp] theorem State.setStage_slr (sp : Spout) (t : Option StageTimer) :
    (s.setStage sp t).slr = s.slr := rfl
@[simp] theorem State.setStage_fc (sp : Spout) (t : Option StageTimer) :
    (s.setStage sp t).fc = s.fc := rfl
@[simp] theorem State.setStage_iob (sp : Spout) (t : Option StageTimer) :
    (s.setStage sp t).iob = s.iob := rfl
@[simp] theorem State.setStage_ot (sp : Spout) (t : Option StageTimer) :
    (s.setStage sp t).ot = s.ot := rfl
@[simp] theorem State.setStage_sc (sp : Spout) (t : Option StageTimer) :
    (s.setStage sp t).sc = s.sc.set sp { s.sc.get sp with stage := t } := rfl
@[simp] theorem State.setStage_params (sp : Spout) (t : Option StageTimer) :
    (s.setStage sp t).params = s.params := rfl
@[simp] theorem State.setStage_fa (sp : Spout) (t : Option StageTimer) :
    (s.setStage sp t).fa = s.fa := rfl
@[simp] theorem State.setStage_lwu (sp : Spout) (t : Option StageTimer) :
    (s.setStage sp t).lwu = s.lwu := rfl
@[simp] theorem State.setStage_sl (sp : Spout) (t : Option StageTimer) :
    (s.setStage sp t).sl = s.sl := rfl
@[simp] theorem State.setStage_rq (sp : Spout) (t : Option StageTimer) :
    (s.setStage sp t).rq = s.rq := rfl
@[simp] theorem State.setStage_cs (sp : Spout) (t : Option StageTimer) :
    (s.setStage sp t).cs = s.cs := rfl
@[simp] theorem State.setStage_pending (sp : Spout) (t : Option StageTimer) :
    (s.setStage sp t).pending = s.pending := rfl

@[simp] theorem State.answer_now (k : Byte) (d : Nat) (r : Reply) :
    (s.answer k d r).now = s.now := rfl
@[simp] theorem State.answer_msBase (k : Byte) (d : Nat) (r : Reply) :
    (s.answer k d r).msBase = s.msBase := rfl
@[simp] theorem State.answer_rst (k : Byte) (d : Nat) (r : Reply) :
    (s.answer k d r).rst = s.rst := rfl
@[simp] theorem State.answer_slr (k : Byte) (d : Nat) (r : Reply) :
    (s.answer k d r).slr = s.slr := rfl
@[simp] theorem State.answer_fc (k : Byte) (d : Nat) (r : Reply) : (s.answer k d r).fc = s.fc := rfl
@[simp] theorem State.answer_iob (k : Byte) (d : Nat) (r : Reply) :
    (s.answer k d r).iob = s.iob := rfl
@[simp] theorem State.answer_ot (k : Byte) (d : Nat) (r : Reply) : (s.answer k d r).ot = s.ot := rfl
@[simp] theorem State.answer_sc (k : Byte) (d : Nat) (r : Reply) : (s.answer k d r).sc = s.sc := rfl
@[simp] theorem State.answer_params (k : Byte) (d : Nat) (r : Reply) :
    (s.answer k d r).params = s.params := rfl
@[simp] theorem State.answer_fa (k : Byte) (d : Nat) (r : Reply) : (s.answer k d r).fa = s.fa := rfl
@[simp] theorem State.answer_lwu (k : Byte) (d : Nat) (r : Reply) :
    (s.answer k d r).lwu = s.lwu := rfl
@[simp] theorem State.answer_sl (k : Byte) (d : Nat) (r : Reply) :
    (s.answer k d r).sl = { s.sl with rx := .listen, tx := .waiting ⟨k, r⟩ (s.now + d) } := rfl
@[simp] theorem State.answer_rq (k : Byte) (d : Nat) (r : Reply) : (s.answer k d r).rq = s.rq := rfl
@[simp] theorem State.answer_cs (k : Byte) (d : Nat) (r : Reply) : (s.answer k d r).cs = s.cs := rfl
@[simp] theorem State.answer_pending (k : Byte) (d : Nat) (r : Reply) :
    (s.answer k d r).pending = s.pending := rfl

@[simp] theorem State.tick_now : (s.tick).now = s.now + 1 := rfl
@[simp] theorem State.tick_msBase : (s.tick).msBase = s.msBase := rfl
@[simp] theorem State.tick_rst : (s.tick).rst = s.rst := rfl
@[simp] theorem State.tick_slr : (s.tick).slr = s.slr := rfl
@[simp] theorem State.tick_fc : (s.tick).fc = s.fc := rfl
@[simp] theorem State.tick_iob : (s.tick).iob = s.iob := rfl
@[simp] theorem State.tick_ot : (s.tick).ot = s.ot := rfl
@[simp] theorem State.tick_sc : (s.tick).sc = s.sc := rfl
@[simp] theorem State.tick_params : (s.tick).params = s.params := rfl
@[simp] theorem State.tick_fa : (s.tick).fa = s.fa := rfl
@[simp] theorem State.tick_lwu : (s.tick).lwu = s.lwu := rfl
@[simp] theorem State.tick_sl : (s.tick).sl = s.sl := rfl
@[simp] theorem State.tick_rq : (s.tick).rq = s.rq := rfl
@[simp] theorem State.tick_cs : (s.tick).cs = s.cs := rfl
@[simp] theorem State.tick_pending : (s.tick).pending = s.pending := rfl

end Sys2Proof.Machine
end

