-- ==== Sys2Proof/Laws/Tables.lean ====
section
/-! SUPPORT. Reading a table after a write: one item for each spout, lane, side and gate. -/

namespace Sys2Proof

@[simp] theorem PerSpout.get_set_self {α : Type} (t : PerSpout α) (i : Spout) (v : α) :
    (t.set i v).get i = v := by cases i <;> rfl

theorem PerSpout.get_set_ne {α : Type} (t : PerSpout α) {i j : Spout} (v : α) (h : j ≠ i) :
    (t.set i v).get j = t.get j := by cases i <;> cases j <;> first | rfl | exact absurd rfl h

theorem PerSpout.get_set {α : Type} (t : PerSpout α) (i j : Spout) (v : α) :
    (t.set i v).get j = if j = i then v else t.get j := by cases i <;> cases j <;> rfl

@[simp] theorem PerSpout.set_set {α : Type} (t : PerSpout α) (i : Spout) (u v : α) :
    (t.set i u).set i v = t.set i v := by cases i <;> rfl

@[simp] theorem PerSpout.set_get {α : Type} (t : PerSpout α) (i : Spout) : t.set i (t.get i) = t := by
  cases i <;> rfl

@[simp] theorem PerSpout.get_map {α β : Type} (f : α → β) (t : PerSpout α) (i : Spout) :
    (t.map f).get i = f (t.get i) := by cases i <;> rfl

@[simp] theorem PerSpout.get_fill {α : Type} (v : α) (i : Spout) : (PerSpout.fill v).get i = v := by
  cases i <;> rfl

@[simp] theorem PerLane.get_set_self {α : Type} (t : PerLane α) (i : Lane) (v : α) :
    (t.set i v).get i = v := by cases i <;> rfl

theorem PerLane.get_set {α : Type} (t : PerLane α) (i j : Lane) (v : α) :
    (t.set i v).get j = if j = i then v else t.get j := by cases i <;> cases j <;> rfl

@[simp] theorem PerLane.set_set {α : Type} (t : PerLane α) (i : Lane) (u v : α) :
    (t.set i u).set i v = t.set i v := by cases i <;> rfl

@[simp] theorem PerLane.set_get {α : Type} (t : PerLane α) (i : Lane) : t.set i (t.get i) = t := by
  cases i <;> rfl

@[simp] theorem PerLane.get_map {α β : Type} (f : α → β) (t : PerLane α) (i : Lane) :
    (t.map f).get i = f (t.get i) := by cases i <;> rfl

@[simp] theorem PerLane.get_fill {α : Type} (v : α) (i : Lane) : (PerLane.fill v).get i = v := by
  cases i <;> rfl

@[simp] theorem PerSide.get_set_self {α : Type} (t : PerSide α) (i : Side) (v : α) :
    (t.set i v).get i = v := by cases i <;> rfl

theorem PerSide.get_set {α : Type} (t : PerSide α) (i j : Side) (v : α) :
    (t.set i v).get j = if j = i then v else t.get j := by cases i <;> cases j <;> rfl

@[simp] theorem PerGate.get_set_self {α : Type} (t : PerGate α) (g : Gate) (v : α) :
    (t.set g v).get g = v := by cases g <;> rfl

theorem PerGate.get_set {α : Type} (t : PerGate α) (g h : Gate) (v : α) :
    (t.set g v).get h = if h = g then v else t.get h := by cases g <;> cases h <;> rfl

/-- A lane's spout lies in the lane, at its side. -/
@[simp] theorem Lane.spout_lane (l : Lane) (p : Side) : (l.spout p).lane = l := by
  cases l <;> cases p <;> rfl

@[simp] theorem Lane.spout_side (l : Lane) (p : Side) : (l.spout p).side = p := by
  cases l <;> cases p <;> rfl

@[simp] theorem Spout.lane_spout_side (sp : Spout) : sp.lane.spout sp.side = sp := by cases sp <;> rfl

/-- A claim about every spout is four claims. -/
theorem Spout.forall_iff {p : Spout → Prop} : (∀ sp, p sp) ↔ p .a ∧ p .b ∧ p .c ∧ p .d :=
  ⟨fun h => ⟨h _, h _, h _, h _⟩, fun ⟨ha, hb, hc, hd⟩ sp => by cases sp <;> assumption⟩

/-- A claim about both lanes is two claims. -/
theorem Lane.forall_iff {p : Lane → Prop} : (∀ l, p l) ↔ p .l1 ∧ p .l2 :=
  ⟨fun h => ⟨h _, h _⟩, fun ⟨h1, h2⟩ l => by cases l <;> assumption⟩

/-- A claim about both gates is two claims. -/
theorem Gate.forall_iff {p : Gate → Prop} : (∀ g, p g) ↔ p .coarse ∧ p .fine :=
  ⟨fun h => ⟨h _, h _⟩, fun ⟨h1, h2⟩ g => by cases g <;> assumption⟩

/-- A claim about both sides is two claims. -/
theorem Side.forall_iff {p : Side → Prop} : (∀ x, p x) ↔ p .lower ∧ p .upper :=
  ⟨fun h => ⟨h _, h _⟩, fun ⟨h1, h2⟩ x => by cases x <;> assumption⟩

end Sys2Proof
end

