-- ==== Sys2Proof/Laws/Ops.lean ====
section
/-! SUPPORT. What the shared operations do, each said once: requests and their replies, the test for a grant, events, state
changes with their outputs, settles, ends and suspensions. -/

namespace Sys2Proof.Laws

open Sys2Proof.Machine Sys2Proof.Safety

/-! ## When a command is taken -/

theorem whenRunning_of_running {s : State} (h : Running s) (f : State → State) : s.whenRunning f = f s := by
  simp [State.whenRunning, show s.rst.held = none from h]

theorem whenRunning_of_held {s : State} (h : ¬ Running s) (f : State → State) : s.whenRunning f = s := by
  have : s.rst.held.isSome = true := by
    simpa [Running, Option.ne_none_iff_isSome] using h
  simp [State.whenRunning, this]

/-- A request taken while the link is IDLE: its block's step, and the reply on the link (R180). -/
theorem request_of_ready {s : State} (h : Ready s) (kind : Byte) (f : State → State × Reply)
    (hsl : (f s).1.sl = s.sl) (hnow : (f s).1.now = s.now) :
    s.request kind f = replied s (f s).1 kind (f s).2 := by
  rw [State.request, whenRunning_of_running h.1]
  simp only [h.2, State.take, State.answer, State.updSl, replied, answered, hsl, hnow]

/-- A request that changes nothing but the link (R182). -/
theorem request_unchanged {s : State} (h : Ready s) (kind : Byte) (f : State → State × Reply) (r : Reply)
    (hf : f s = (s, r)) : s.request kind f = answeredOnly s kind r := by
  rw [request_of_ready h kind f (by rw [hf]) (by rw [hf]), hf]; rfl

/-! ## Grants -/

/-- The two counts of grant holders agree. -/
theorem holderCount_eq (f : Fa) : f.holderCount = (Spout.all.filter f.holders.get).length := by
  simp only [Fa.holderCount, PerSpout.toList, Spout.all, List.filter, PerSpout.get]
  cases f.holders.a <;> cases f.holders.b <;> cases f.holders.c <;> cases f.holders.d <;> rfl

theorem grantTurns_of_settled (n : Nat) {s : State} (h : GrantsSettled s) : State.grantTurns n s = s := by
  cases n with
  | zero => rfl
  | succ n =>
    rw [State.grantTurns]
    split
    · rfl
    · rename_i sp rest hr
      split
      · rename_i hc
        have hg := h hc.1 (by simp [hr])
        have hlt := hc.2
        rw [holderCount_eq] at hlt
        omega
      · rfl

/-- With no grant due the test for a grant changes nothing (R141). -/
theorem testGrant_of_settled {s : State} (h : GrantsSettled s) : s.testGrant = s := grantTurns_of_settled _ h

/-- With no spout waiting the test for a grant changes nothing (R141). -/
theorem testGrant_of_empty {s : State} (h : s.fa.requests = []) : s.testGrant = s :=
  testGrant_of_settled fun _ hn => absurd h hn

/-- While the feed condition is not NORMAL the test for a grant changes nothing (R141). -/
theorem testGrant_of_condition {s : State} (h : s.fa.condition ≠ .normal) : s.testGrant = s :=
  testGrant_of_settled fun hc => absurd hc h

/-! ## Events and conditions -/

theorem push_eq_queued (s : State) (src : EventSource) (body : EventBody) :
    s.rq.push ⟨src, s.msTime, body⟩ = queued s src body := rfl

/-- An event of this step enters the queue or is counted, and ATTENTION follows (R187, R188). -/
theorem pushEvent_eq_reported (s : State) (src : EventSource) (body : EventBody) :
    s.pushEvent src body = reported s src body := rfl

theorem queued_length_le {s : State} (src : EventSource) (body : EventBody) (h : s.rq.events.length ≤ 32) :
    (queued s src body).events.length ≤ 32 := by
  unfold queued; split
  · simp; omega
  · exact h

theorem queued_lost_le {s : State} (src : EventSource) (body : EventBody) (h : s.rq.lost ≤ 255) :
    (queued s src body).lost ≤ 255 := by
  unfold queued; split
  · exact h
  · simp

/-- The feed condition of two views is the table's (R144). -/
theorem feedCondition_eq (feedHold airOk : Level) : feedCondition feedHold airOk = conditionOf feedHold airOk := by
  cases feedHold <;> cases airOk <;> rfl

/-! ## Gates and state changes -/

/-- A gate command as the supervision takes it (R51). -/
theorem command_eq_gateAfter (s : State) (sp : Spout) (g : Gate) (open? : Bool) :
    (s.gate sp g).command open? s.now (s.params.get sp).gateTravel (s.level sp (gateSwitch g)) =
      gateAfter s sp g open? := by
  unfold GateSup.command gateAfter
  cases open? <;> cases (s.gate sp g).state <;> rfl

/-- A gate command reads the time, the travel time, the gate and its switch. -/
theorem gateAfter_congr {s t : State} {sp : Spout} {g : Gate} {open? : Bool} (hn : t.now = s.now)
    (hp : t.params = s.params) (hg : t.iob.gates = s.iob.gates) (hi : t.iob.inputs = s.iob.inputs) :
    gateAfter t sp g open? = gateAfter s sp g open? := by
  unfold gateAfter State.gate State.level State.input
  simp only [hn, hp, hg, hi]

/-- The tracking condition and its timer (R33). -/
theorem retrack_eq_tracked (f : Fc) (expiry : Nat) : f.retrack expiry = tracked f expiry := by
  unfold Fc.retrack tracked Fc.tracking
  cases f.idleView <;> cases f.coarseView <;> cases f.fineView <;> cases f.lineView <;>
    cases f.zeroTimer <;> rfl

/-- The three outputs of a spout commanded together, with their supervision (R49, R51). -/
theorem commandOutputs_eq (s : State) (sp : Spout) (coarse fine aeration : Bool) :
    s.commandOutputs sp coarse fine aeration =
      { s with
        iob :=
          { s.iob with
            coarseOut := s.iob.coarseOut.set sp coarse
            fineOut := s.iob.fineOut.set sp fine
            aeration := s.iob.aeration.set sp aeration
            gates := s.iob.gates.set sp ⟨gateAfter s sp .coarse coarse, gateAfter s sp .fine fine⟩ } } := by
  simp only [← command_eq_gateAfter]
  unfold State.commandOutputs State.superviseCommand State.setGate State.updIob State.gate State.level
    State.input
  simp [PerGate.set, PerGate.get]

/-- A change of spout state with its notices (R56, R83). -/
theorem setSpoutState_eq (s : State) (sp : Spout) (st : SpoutState) :
    s.setSpoutState sp st = enters s sp { s.sc.get sp with state := st } := by
  unfold State.setSpoutState State.updTracking enters State.notice State.updIob State.updFc State.updSc
    State.zeroExpiry
  simp only [retrack_eq_tracked]

/-- A settle begins (R99, R123). -/
theorem startSettle_eq (s : State) (sp : Spout) (st : SpoutState) :
    s.startSettle sp st = settling s sp (s.sc.get sp) st := by
  unfold State.startSettle
  simp only [setSpoutState_eq, State.outputsOff, commandOutputs_eq]
  unfold settling grantReturned movedTo enters State.releaseGrant State.updFa State.updSc
  simp [Iob.recompute]

/-- The fine gate alone, with the aeration (R81, R82). -/
theorem enterFine_eq (s : State) (sp : Spout) :
    s.enterFine sp = movedTo s sp { s.sc.get sp with state := .fine, stage := none } false true true := by
  unfold State.enterFine State.setStage
  simp only [setSpoutState_eq, commandOutputs_eq]
  unfold movedTo enters State.updSc
  simp

/-- Both gates, with the aeration (R81, R82). -/
theorem enterCoarse_eq (s : State) (sp : Spout) :
    s.enterCoarse sp = movedTo s sp { s.sc.get sp with state := .coarse, stage := none } true true true := by
  unfold State.enterCoarse State.setStage
  simp only [setSpoutState_eq, commandOutputs_eq]
  unfold movedTo enters State.updSc
  simp

/-- The entry to SETTLE on reaching F (R69, R99). -/
theorem reachFine_eq {s : State} {sp : Spout} {i : Fin 16} (h : (s.sc.get sp).active = some i) :
    s.reachFine sp = cutOff s sp i := by
  unfold State.reachFine State.writeCutoff cutOff
  simp only [h, startSettle_eq]
  rfl

/-! ## Lockout, ends and suspension -/

/-- A reason enters the lockout set (R136). -/
theorem enterLockout_eq (s : State) (sp : Spout) (r : LockoutReason) :
    s.enterLockout sp r = lockedFor s sp r := rfl

/-- An OPEN window that a lane's last active spout leaves (R167). -/
theorem laneLeft_eq (s : State) (sp : Spout) (h : (s.sc.get sp).state.isActive = false) :
    s.laneLeft sp.lane = laneLeftBy s sp := by
  have hl : s.laneActive sp.lane = (s.sc.get (mate sp)).state.isActive := by
    unfold State.laneActive; cases sp <;> simp_all [Spout.lane, Lane.spout, mate]
  unfold State.laneLeft laneLeftBy
  rw [hl]; dsimp only
  split <;> rfl

/-- An order ends and its spout returns to IDLE (R70, R103, R125). -/
theorem endOrder_enterIdle_eq {s : State} {sp : Spout} {i : Fin 16} (h : (s.sc.get sp).active = some i)
    (n : EndNotice) :
    (s.endOrder sp n).enterIdle sp =
      orderEnded s sp i ((s.ot.slot i).ended n s.msTime) ((s.ot.slot i).endEvent i n) := by
  unfold State.enterIdle
  rw [laneLeft_eq _ _ (by simp [setSpoutState_eq, enters, SpoutState.isActive])]
  unfold orderEnded
  congr 1
  unfold State.endOrder
  simp only [h, setSpoutState_eq, State.outputsOff, commandOutputs_eq, pushEvent_eq_reported]
  unfold grantReturned movedTo enters State.releaseGrant State.updFa State.updSc State.updFc State.updSlot
    State.updOt reported State.notice State.updIob queued State.msTime
  simp [Iob.recompute]
  exact ⟨rfl, rfl⟩

/-- An abort ends the order with the reasons gathered (R122, R125). -/
theorem endAborted_eq {s : State} {sp : Spout} {i : Fin 16} (h : (s.sc.get sp).active = some i) :
    s.endAborted sp = orderAborted s sp i (s.sc.get sp).reasons := by
  unfold State.endAborted
  rw [endOrder_enterIdle_eq h]
  unfold orderAborted
  have : ({ s with sc := s.sc.set sp { s.sc.get sp with reasons := (s.sc.get sp).reasons } } : State) = s := by
    show ({ s with sc := s.sc.set sp (s.sc.get sp) } : State) = s
    simp
  simp only [this]
  cases hs : s.ot.slot i
  simp [SlotRec.ended, SlotRec.endEvent, SlotRec.marks]

/-- A request withdrawn from the list (R143). -/
theorem withdrawFeed_eq (s : State) (sp : Spout) : s.withdrawFeed sp = unrequested s sp := rfl

/-- A claim withdrawn from the lane (R165). -/
theorem withdrawClaim_eq (s : State) (sp : Spout) : s.withdrawClaim sp = claimWithdrawn s sp := by
  unfold State.withdrawClaim claimWithdrawn
  dsimp only
  by_cases h : (s.lwu.get sp.lane).window.state = .taring ∧
      ((s.lwu.get sp.lane).window.claims.set sp.side false).lower = false ∧
      ((s.lwu.get sp.lane).window.claims.set sp.side false).upper = false
  · rw [if_pos h, if_pos]
    · simp [State.moveWindow, State.updWindow, State.updLwu, State.notice, State.updIob, WindowState.lit]
    · simpa [State.updWindow, State.updLwu, Window.noClaims] using h
  · rw [if_neg h, if_neg]
    · rfl
    · simpa [State.updWindow, State.updLwu, Window.noClaims] using h

/-- The release of a claim reaches a spout in TARE (R90, R91). -/
theorem releaseClaim_eq {s : State} {sp : Spout} (h : (s.sc.get sp).state = .tare)
    (hr : sp ∉ s.fa.requests) : s.releaseClaim sp = claimReleased s sp := by
  unfold State.releaseClaim
  rw [if_pos h]
  unfold State.enterWaitFeed State.requestFeed State.setStage
  simp only [setSpoutState_eq]
  unfold claimReleased enters State.updFa State.updSc
  simp [hr]

/-- What a lane's window gathers from a spout, while it is OPEN or WEIGHING (R166). -/
theorem gather_eq (s : State) (sp : Spout) (f : Contribution → Contribution) :
    s.gather sp f =
      { s with
        lwu :=
          let u := s.lwu.get sp.lane
          if u.window.state = .opened ∨ u.window.state = .weighing then
            s.lwu.set sp.lane
              { u with
                window :=
                  { u.window with
                    contrib := u.window.contrib.set sp.side (f (u.window.contrib.get sp.side)) } }
          else s.lwu } := by
  unfold State.gather State.updWindow State.updLwu
  cases hw : (s.lwu.get sp.lane).window.state <;> simp only [WindowState.gathers, hw] <;> simp <;>
    exact PerLane.set_get s.lwu sp.lane

/-- The suspension count of a spout's active order (R132). -/
theorem countSuspension_eq (s : State) (sp : Spout) :
    s.countSuspension sp =
      { s with
        ot :=
          match (s.sc.get sp).active with
          | none => s.ot
          | some i =>
            s.ot.setSlot i { s.ot.slot i with suspCount := min 255 ((s.ot.slot i).suspCount + 1) } } := by
  unfold State.countSuspension
  cases (s.sc.get sp).active <;> rfl

/-- A suspension before the notice to the lane's window (R132). -/
theorem suspend_core {s : State} {sp : Spout} (cause : SuspendCause) (hr : sp ∉ s.fa.requests) :
    s.suspend sp cause =
      State.gather
        { (grantReturned
            (movedTo s sp
              { s.sc.get sp with
                state := .suspended, grantHeld := false, cause := some cause
                stage := some ⟨.suspend, s.now + (s.params.get sp).suspend * 1000⟩ }
              false false false)
            sp).updFa fun f => { f with requests := f.requests ++ [sp] } with
          ot :=
            match (s.sc.get sp).active with
            | none => s.ot
            | some i => s.ot.setSlot i { s.ot.slot i with suspCount := min 255 ((s.ot.slot i).suspCount + 1) } }
        sp (fun c => { c with suspended := true }) := by
  unfold State.suspend State.suspensionNotice State.outputsOff
  dsimp only
  congr 1
  rw [commandOutputs_eq, countSuspension_eq, setSpoutState_eq]
  unfold State.requestFeed State.setStage grantReturned movedTo enters State.releaseGrant State.updFa
    State.updSc
  simp only [Iob.recompute, hr, PerSpout.set_set, PerSpout.get_set_self, if_false]
  rfl

/-- A suspension (R132, R166). -/
theorem suspend_eq {s : State} {sp : Spout} (cause : SuspendCause) (hr : sp ∉ s.fa.requests) :
    s.suspend sp cause = suspendedBy s sp cause := by
  rw [suspend_core cause hr, gather_eq]
  rfl

/-! ## Flow -/

theorem keepLast_append_keepLast {α : Type} (n : Nat) (xs ys : List α) :
    keepLast n (keepLast n xs ++ ys) = keepLast n (xs ++ ys) := by
  unfold keepLast
  rw [← List.drop_append_of_le_length (by simp), List.drop_drop]
  congr 1
  simp only [List.length_drop, List.length_append]
  omega

/-- One item (R25 to R28, R166). -/
theorem integrate_eq (s : State) (sp : Spout) (q : Nat) (sub overr : Bool) :
    s.integrate sp q sub overr = afterItems s sp [q] sub.toNat overr.toNat := by
  unfold State.integrate State.laneReport
  simp only [gather_eq]
  unfold afterItems Fc.afterItems State.updFc State.updSlot State.updOt SlotRec.addItem Fc.enter
  cases ha : (s.fc.get sp).active <;> simp [ha, satAdd, Config.massMax, Config.countMax]

@[simp] theorem slot_setSlot_self (t : Ot) (i : Fin 16) (r : SlotRec) : (t.setSlot i r).slot i = r := by
  simp [Ot.slot, Ot.setSlot]

theorem slot_setSlot (t : Ot) (i j : Fin 16) (r : SlotRec) :
    (t.setSlot i r).slot j = if j = i then r else t.slot j := by
  by_cases h : j = i
  · subst h; simp
  · have h' : (i : Nat) ≠ j := fun e => h (Fin.ext e.symm)
    simp [Ot.slot, Ot.setSlot, h, h']

@[simp] theorem setSlot_setSlot (t : Ot) (i : Fin 16) (r q : SlotRec) :
    (t.setSlot i r).setSlot i q = t.setSlot i q := by
  simp [Ot.setSlot]

@[simp] theorem setSide_setSide {α : Type} (t : PerSide α) (p : Side) (u v : α) :
    (t.set p u).set p v = t.set p v := by cases p <;> rfl

/-- Items taken one after another are the items taken all at once (R25 to R28, R166). -/
theorem afterItems_append (s : State) (sp : Spout) (xs ys : List Nat) (a b c d : Nat) :
    afterItems (afterItems s sp xs a b) sp ys c d = afterItems s sp (xs ++ ys) (a + c) (b + d) := by
  have hg : ∀ r : Nat, (r + 10 * xs.sum) / 1000 + ((r + 10 * xs.sum) % 1000 + 10 * ys.sum) / 1000 =
      (r + 10 * (xs ++ ys).sum) / 1000 := by
    intro r; rw [List.sum_append]; omega
  have hr : ∀ r : Nat, ((r + 10 * xs.sum) % 1000 + 10 * ys.sum) % 1000 =
      (r + 10 * (xs ++ ys).sum) % 1000 := by
    intro r; rw [List.sum_append]; omega
  have hs : ∀ m u v w : Nat, min m (min m (u + v) + w) = min m (u + (v + w)) := by omega
  unfold afterItems
  simp only [PerSpout.get_set_self, PerSpout.set_set]
  cases ha : (s.fc.get sp).active <;> cases hw : (s.lwu.get sp.lane).window.state <;>
    simp only [Fc.afterItems, ha, hw, reduceCtorEq, or_self, or_true, true_or, if_true, if_false,
      PerLane.get_set_self, PerLane.set_set,
      PerSide.get_set_self, setSide_setSide, slot_setSlot_self, setSlot_setSlot, hs, hg, hr,
      keepLast_append_keepLast, List.append_assoc, Option.isSome]

/-! ## Decisions and grants -/

/-- The comparison of a spout's active order (R108 to R112). -/
theorem decision_eq {s : State} {sp : Spout} {i : Fin 16} (h : (s.sc.get sp).active = some i) :
    s.decision sp = some (reachedBy s sp i) := by
  unfold State.decision reachedBy
  rw [h]; rfl

/-- The settle of a decision does not depend on the stage timer it stops (R99). -/
theorem cutOff_setStage (s : State) (sp : Spout) (i : Fin 16) (t : Option StageTimer) :
    cutOff (s.setStage sp t) sp i = cutOff s sp i := by
  unfold cutOff settling grantReturned movedTo
  simp only [State.setStage, State.updSc, PerSpout.get_set_self, PerSpout.set_set]
  rfl

/-- An output command does not depend on the stage timer (R49). -/
theorem movedTo_setStage (s : State) (sp : Spout) (c : Sc) (t : Option StageTimer) (x y z : Bool) :
    movedTo (s.setStage sp t) sp c x y z = movedTo s sp c x y z := by
  unfold movedTo
  simp only [State.setStage, State.updSc, PerSpout.set_set]
  rfl

/-- The end of PRIME (R95). -/
theorem primeDecision_eq {s : State} {sp : Spout} {i : Fin 16} (h : (s.sc.get sp).active = some i) :
    (s.setStage sp none).primeDecision sp = primed s sp i := by
  have ha : ((s.setStage sp none).sc.get sp).active = some i := by simpa [State.setStage] using h
  have hr : reachedBy (s.setStage sp none) sp i = reachedBy s sp i := rfl
  unfold State.primeDecision primed
  rw [decision_eq ha, hr, reachFine_eq ha, enterFine_eq, enterCoarse_eq, cutOff_setStage, movedTo_setStage,
    movedTo_setStage]
  rcases reachedBy s sp i with ⟨_ | _, _ | _⟩ <;> simp [State.setStage]

/-- The entry to AERATE (R94). -/
theorem enterAerate_eq (s : State) (sp : Spout) :
    s.enterAerate sp =
      let prime := (s.params.get sp).prime
      let stage := if prime = 0 then none else some (⟨.prime, s.now + prime⟩ : StageTimer)
      let aerates := movedTo s sp { s.sc.get sp with state := .aerate, stage } false false true
      match (s.sc.get sp).active with
      | none => aerates
      | some i => if prime = 0 then primed aerates sp i else aerates := by
  have hm : ∀ t : Option StageTimer,
      ((s.commandOutputs sp false false true).setSpoutState sp .aerate).setStage sp t =
        movedTo s sp { s.sc.get sp with state := .aerate, stage := t } false false true := by
    intro t
    unfold State.setStage
    simp only [setSpoutState_eq, commandOutputs_eq]
    unfold movedTo enters State.updSc
    simp
  have hp : ((s.commandOutputs sp false false true).setSpoutState sp .aerate).params = s.params := by
    simp [setSpoutState_eq, commandOutputs_eq, enters]
  have hn : ((s.commandOutputs sp false false true).setSpoutState sp .aerate).now = s.now := by
    simp [setSpoutState_eq, commandOutputs_eq, enters]
  unfold State.enterAerate
  simp only [hp, hn]
  by_cases h0 : (s.params.get sp).prime = 0
  · simp only [h0, if_true]
    have hidem : ((s.commandOutputs sp false false true).setSpoutState sp .aerate).setStage sp none =
        (movedTo s sp { s.sc.get sp with state := .aerate, stage := none } false false true).setStage sp none := by
      rw [← hm]; simp [State.setStage, State.updSc]
    cases ha : (s.sc.get sp).active with
    | none =>
      rw [hm]
      have : (movedTo s sp { s.sc.get sp with state := .aerate, stage := none } false false true).decision sp = none := by
        simp [State.decision, movedTo, ha]
      unfold State.primeDecision
      rw [this]; simp only [ha]
    | some i =>
      rw [hidem, primeDecision_eq (i := i) (by unfold movedTo; rw [PerSpout.get_set_self]; exact ha)]
      simp only [ha]
  · simp only [h0, if_false]
    rw [hm]
    split <;> rfl

/-- A grant is taken (R92, R94, R133). -/
theorem takeGrant_eq (s : State) (sp : Spout) : s.takeGrant sp = granted s sp := by
  unfold State.takeGrant granted
  dsimp only
  generalize hh : s.updSc sp (fun c => { c with grantHeld := true, stage := none, cause := none }) = held
  have hs : held = { s with sc := s.sc.set sp { s.sc.get sp with grantHeld := true, stage := none, cause := none } } := by
    rw [← hh]; rfl
  rw [← hs]
  have hsc : held.sc.get sp = { s.sc.get sp with grantHeld := true, stage := none, cause := none } := by
    rw [hs]; simp
  have hp : held.params = s.params := by rw [hs]
  have hn : held.now = s.now := by rw [hs]
  have he := enterAerate_eq held sp
  rw [hsc, hp, hn] at he
  cases ha : (s.sc.get sp).active with
  | none =>
    have hd : held.decision sp = none := by simp [State.decision, hsc, ha]
    rw [hd]; simp only [he, ha]
  | some i =>
    have ha' : (held.sc.get sp).active = some i := by rw [hsc]; exact ha
    rw [decision_eq ha', reachFine_eq ha', he]
    simp only [ha]
    rcases reachedBy held sp i with ⟨_ | _, _⟩ <;> rfl

/-- A grant that is taken leaves the list of waiting spouts (R141). -/
theorem granted_requests (s : State) (sp : Spout) : (granted s sp).fa.requests = s.fa.requests := by
  unfold granted
  dsimp only
  split
  · rfl
  · split
    · rfl
    · split
      · unfold primed; dsimp only; split
        · rfl
        · split <;> rfl
      · rfl

/-- As many turns as the list is long give every grant that is due (R141, R149). -/
theorem grantTurns_eq (s : State) (n : Nat) (h : s.fa.requests.length ≤ n) :
    State.grantTurns n s = served s.fa.requests s := by
  induction n generalizing s with
  | zero =>
    have : s.fa.requests = [] := List.length_eq_zero_iff.1 (by omega)
    rw [this]; rfl
  | succ n ih =>
    rw [State.grantTurns]
    cases hr : s.fa.requests with
    | nil => rfl
    | cons sp rest =>
      rw [served, holderCount_eq]
      dsimp only
      split
      · rw [takeGrant_eq, ih _ (by rw [granted_requests]; simp [State.updFa, hr] at *; omega), granted_requests]
        rfl
      · rfl

/-- The test for a grant gives the grants that are due (R141, R149). -/
theorem testGrant_eq (s : State) : s.testGrant = grantsGiven s := grantTurns_eq s _ (le_refl _)

/-! ## Abort causes -/

/-- The lockout reason of a cause (R135). -/
theorem lockout_eq (r : AbortReason) (st : SpoutState) : r.lockout st = lockoutFor r st := by
  cases r <;> cases st <;> rfl

/-- A settle reads the Spout Controller's items it is given, not those that stand (R99, R123). -/
theorem settling_setSc (s : State) (sp : Spout) (c d : Sc) (st : SpoutState) :
    settling { s with sc := s.sc.set sp d } sp c st = settling s sp c st := by
  unfold settling grantReturned movedTo
  simp only [PerSpout.set_set]
  rfl

/-- An order ended by abort leaves of the Spout Controller's items only those that the end does not set (R122, R125). -/
theorem orderAborted_setSc (s : State) (sp : Spout) (i : Fin 16) (reasons : ReasonSet) (d : Sc)
    (h : { d with state := .idle, active := none, grantHeld := false, stage := none, deadline := none, reasons } =
      { s.sc.get sp with
        state := .idle, active := none, grantHeld := false, stage := none, deadline := none, reasons }) :
    orderAborted { s with sc := s.sc.set sp d } sp i reasons = orderAborted s sp i reasons := by
  unfold orderAborted orderEnded grantReturned movedTo reported State.notice State.updIob
  simp only [PerSpout.set_set, PerSpout.get_set_self]
  rw [h]
  rfl

/-- A cause gathered: the lockout set first, then the reasons; the two do not meet (R121, R135). -/
theorem gatherCause_eq (s : State) (sp : Spout) (r : AbortReason) :
    s.gatherCause sp r =
      let locked := causeLocked s sp r
      { locked with
        sc := locked.sc.set sp { locked.sc.get sp with reasons := (s.sc.get sp).reasons.add r } } := by
  unfold State.gatherCause State.lockoutCause causeLocked
  simp only [lockout_eq, enterLockout_eq, State.updSc, PerSpout.get_set_self]
  cases lockoutFor r (s.sc.get sp).state with
  | none => rfl
  | some k =>
    unfold lockedFor
    simp only [PerSpout.get_set_self]
    by_cases hk : (s.sc.get sp).lockout.has k = true
    · simp only [hk, if_true]
    · simp only [hk, if_false, Bool.false_eq_true]
      simp [reported, State.notice, State.updIob, queued, State.msTime]

/-- Entering a lockout reason leaves the active order (R136). -/
@[simp] theorem lockedFor_active (s : State) (sp : Spout) (k : LockoutReason) :
    ((lockedFor s sp k).sc.get sp).active = (s.sc.get sp).active := by
  unfold lockedFor
  dsimp only
  split
  · rfl
  · simp [reported, State.notice, State.updIob]

/-- The end of an order by abort after its reasons were gathered (R122, R125). -/
theorem endAborted_setSc {s : State} {sp : Spout} {i : Fin 16} (d : Sc) (ha : d.active = some i)
    (h : { d with state := .idle, active := none, grantHeld := false, stage := none, deadline := none } =
      { s.sc.get sp with
        state := .idle, active := none, grantHeld := false, stage := none, deadline := none
        reasons := d.reasons }) :
    ({ s with sc := s.sc.set sp d } : State).endAborted sp = orderAborted s sp i d.reasons := by
  rw [endAborted_eq (i := i) (by simpa using ha)]
  simp only [PerSpout.get_set_self]
  exact orderAborted_setSc s sp i d.reasons d h

/-- A claim's withdrawal neither reads nor changes the Spout Controllers (R165). -/
theorem claimWithdrawn_sc (s : State) (sp : Spout) (x : PerSpout Sc) :
    claimWithdrawn { s with sc := x } sp = { claimWithdrawn s sp with sc := x } ∧
      (claimWithdrawn s sp).sc = s.sc := by
  unfold claimWithdrawn
  dsimp only
  split <;> exact ⟨rfl, rfl⟩

/-- An abort cause in SUSPENDED: the request and the suspension cause go, and the abort settle begins (R123). -/
theorem suspended_aborts (s : State) (sp : Spout) (d : Sc) :
    ((({ s with sc := s.sc.set sp d } : State).withdrawFeed sp).updSc sp
        fun c => { c with cause := none }).startSettle sp .aborting =
      settling (unrequested s sp) sp { d with cause := none } .aborting := by
  have h : (({ s with sc := s.sc.set sp d } : State).withdrawFeed sp).updSc sp
      (fun c => { c with cause := none }) =
        { unrequested s sp with sc := s.sc.set sp { d with cause := none } } := by
    show ({ unrequested s sp with
        sc := (s.sc.set sp d).set sp { (s.sc.set sp d).get sp with cause := none } } : State) = _
    rw [PerSpout.get_set_self, PerSpout.set_set]
  rw [h, startSettle_eq]
  dsimp only
  rw [PerSpout.get_set_self]
  exact settling_setSc (unrequested s sp) sp _ _ .aborting

/-- An abort cause at an idle spout, and at one with an active order (R120 to R127). -/
theorem abortCause_eq {s : State} {sp : Spout} (r : AbortReason)
    (h : (s.sc.get sp).state = .idle ∨ (s.sc.get sp).active ≠ none) :
    s.abortCause sp r = causeTaken s sp r := by
  unfold State.abortCause causeTaken
  dsimp only
  have hi : (s.sc.get sp).state = .idle →
      (if r = .gateFault then s.lockoutCause sp r else s) = causeLocked s sp r := by
    intro h0
    unfold State.lockoutCause causeLocked
    rw [lockout_eq, h0]
    cases r <;> rfl
  have hact : ((causeLocked s sp r).sc.get sp).active = (s.sc.get sp).active := by
    unfold causeLocked; split <;> simp
  have hg := gatherCause_eq s sp r
  dsimp only at hg
  rw [hg]
  generalize causeLocked s sp r = L at *
  cases hst : (s.sc.get sp).state with
  | idle =>
    exact hi hst
  | tare =>
    obtain ⟨i, ha⟩ := Option.ne_none_iff_exists'.1 (h.resolve_left (by rw [hst]; decide))
    obtain ⟨hw, hc⟩ := claimWithdrawn_sc L sp
      (L.sc.set sp { L.sc.get sp with reasons := (s.sc.get sp).reasons.add r })
    rw [withdrawClaim_eq, hw, ha]
    rw [← hc] at hact ⊢
    exact endAborted_setSc (s := claimWithdrawn L sp) _ (hact.trans ha) rfl
  | waitFeed =>
    obtain ⟨i, ha⟩ := Option.ne_none_iff_exists'.1 (h.resolve_left (by rw [hst]; decide))
    simp only [ha, State.setStage, State.updSc, PerSpout.get_set_self, PerSpout.set_set]
    exact endAborted_setSc (s := unrequested L sp) _ (hact.trans ha) rfl
  | aerate => simp only [startSettle_eq, PerSpout.get_set_self, settling_setSc]
  | coarse => simp only [startSettle_eq, PerSpout.get_set_self, settling_setSc]
  | fine => simp only [startSettle_eq, PerSpout.get_set_self, settling_setSc]
  | settle =>
    simp only [setSpoutState_eq, PerSpout.get_set_self]
    unfold enters
    simp only [PerSpout.set_set]
  | suspended =>
    exact suspended_aborts L sp { L.sc.get sp with reasons := (s.sc.get sp).reasons.add r }
  | aborting => rfl

/-! ## Samples, the line and the claims -/

/-- A sample report (R96 to R98). -/
theorem sampleReport_eq {s : State} {sp : Spout} {i : Fin 16} (ha : (s.sc.get sp).active = some i)
    (hr : (s.sc.get sp).state = .coarse → sp ∉ s.fa.requests) : s.sampleReport sp = decided s sp i := by
  unfold State.sampleReport decided
  rw [decision_eq ha, reachFine_eq ha, enterFine_eq]
  dsimp only
  cases hst : (s.sc.get sp).state with
  | coarse =>
    rw [suspend_eq .feedHold (hr hst)]
    rcases reachedBy s sp i with ⟨_ | _, _ | _⟩ <;> simp
  | fine => rcases reachedBy s sp i with ⟨_ | _, _⟩ <;> simp
  | _ => rcases reachedBy s sp i with ⟨_ | _, _ | _⟩ <;> simp

/-- An abort cause leaves the receivers (R120). -/
theorem causeTaken_slr (s : State) (sp : Spout) (r : AbortReason) : (causeTaken s sp r).slr = s.slr := by
  have hl : (causeLocked s sp r).slr = s.slr := by
    unfold causeLocked lockedFor
    dsimp only
    split
    · rfl
    · split <;> rfl
  have hw : ∀ t : State, (claimWithdrawn t sp).slr = t.slr := by
    intro t; unfold claimWithdrawn; dsimp only; split <;> rfl
  have ho : ∀ (t : State) (i : Fin 16) (x : ReasonSet), (orderAborted t sp i x).slr = t.slr := by
    intro t i x; unfold orderAborted orderEnded laneLeftBy; dsimp only; split <;> rfl
  unfold causeTaken
  dsimp only
  split
  · exact hl
  · split
    · exact (hw _).trans hl
    · exact (ho _ _ _).trans ((hw _).trans hl)
  · split
    · exact hl
    · exact (ho _ _ _).trans hl
  all_goals exact hl

/-- An abort cause leaves the other Spout Controllers (R120). -/
theorem causeTaken_sc_ne (s : State) {sp q : Spout} (r : AbortReason) (h : q ≠ sp) :
    (causeTaken s sp r).sc.get q = s.sc.get q := by
  have hl : (causeLocked s sp r).sc.get q = s.sc.get q := by
    unfold causeLocked lockedFor
    dsimp only
    split
    · rfl
    · split
      · rfl
      · simp [reported, State.notice, PerSpout.get_set, h]
  have hw : ∀ t : State, (claimWithdrawn t sp).sc = t.sc := by
    intro t; unfold claimWithdrawn; dsimp only; split <;> rfl
  have hs : ∀ (t : State) (c : Sc) (st : SpoutState), (settling t sp c st).sc.get q = t.sc.get q := by
    intro t c st; simp [settling, grantReturned, movedTo, State.updFa, PerSpout.get_set, h]
  have ho : ∀ (t : State) (i : Fin 16) (x : ReasonSet), (orderAborted t sp i x).sc.get q = t.sc.get q := by
    intro t i x
    unfold orderAborted orderEnded laneLeftBy
    dsimp only
    split <;> simp [grantReturned, movedTo, State.updFa, State.notice, reported, PerSpout.get_set, h]
  unfold causeTaken
  dsimp only
  split
  · exact hl
  · split
    · rw [hw, hl]
    · rw [ho, hw, hl]
  · split
    · exact hl
    · rw [ho]; exact hl
  · rw [hs, hl]
  · rw [hs, hl]
  · rw [hs, hl]
  · rw [hs]; exact hl
  · simp [enters, PerSpout.get_set, h, hl]
  · simp [PerSpout.get_set, h, hl]
/-- A line goes LOST (R11, R30). -/
theorem lineLost_eq {s : State} {sp : Spout}
    (h : (s.sc.get sp).state = .idle ∨ (s.sc.get sp).active ≠ none) : s.lineLost sp = lineLostBy s sp := by
  unfold State.lineLost lineLostBy
  dsimp only
  have hd : (s.updSlr sp fun r => { r with line := .lost, subRun := 0, goodRun := 0, hold := [] }).fcLineLost sp =
      (s.updSlr sp fun r => { r with line := .lost, subRun := 0, goodRun := 0, hold := [] }).updFc sp
        fun f => { f with lineView := .lost, window := [], qFilt := 0, history := [], zeroTimer := none } := by
    unfold State.fcLineLost State.updTracking
    simp only [retrack_eq_tracked, tracked, State.updFc, reduceCtorEq, and_false, if_false]
  rw [hd]
  generalize hg : State.updFc _ sp _ = down
  have hs : (down.sc.get sp).state = .idle ∨ (down.sc.get sp).active ≠ none := by rw [← hg]; exact h
  rw [pushEvent_eq_reported, abortCause_eq .sensorLost hs, ← hg]
  simp only [State.updSc, causeTaken_slr, State.updFc, State.updSlr, PerSpout.get_set_self]

/-- The claims of a window released, each at a spout in TARE that does not wait yet (R164). -/
theorem releaseClaims_eq {s : State} {l : Lane} {claims : PerSide Bool}
    (h : ∀ p, claims.get p = true → (s.sc.get (l.spout p)).state = .tare ∧ l.spout p ∉ s.fa.requests) :
    s.releaseClaims l claims = claimsReleased s l claims := by
  unfold State.releaseClaims claimsReleased
  have hl := h .lower
  have hu := h .upper
  simp only [PerSide.get] at hl hu
  have hne : l.spout .upper ≠ l.spout .lower := by cases l <;> decide
  by_cases cl : claims.lower = true
  · simp only [cl, if_true, releaseClaim_eq (hl cl).1 (hl cl).2]
    by_cases cu : claims.upper = true
    · simp only [cu, if_true]
      refine releaseClaim_eq ?_ ?_
      · simp [claimReleased, enters, PerSpout.get_set, hne, (hu cu).1]
      · simp [claimReleased, enters, State.updFa, hne, (hu cu).2]
    · simp [cu]
  · simp only [cl, Bool.false_eq_true, if_false]
    by_cases cu : claims.upper = true
    · simp only [cu, if_true, releaseClaim_eq (hu cu).1 (hu cu).2]
    · simp [cu]

end Sys2Proof.Laws
end

