-- ==== Sys2Proof/Laws/PerInstr.lean ====
section
/-! SUPPORT. One statement for each command: what a request's encoding is made of. -/

namespace Sys2Proof.Laws

/-- A well-formed command that is a request has a kind from 0x01 to 0x13, so that its top bit, which marks a reply, is clear,
and a body that a frame can carry: at most 120 bytes (R176, R178, R179). -/
def RequestKind.Statement (i : Instr) : Prop :=
  i.wf = true → ∀ kind body, encodeRequest i = some (kind, body) →
    1 ≤ kind.toNat ∧ kind.toNat ≤ 0x13 ∧ body.length ≤ 120

theorem encodeSpoutFields_length (f : SpoutFields) : (encodeSpoutFields f).length = 48 := by
  unfold encodeSpoutFields
  simp only [List.length_append]
  have h2 : ∀ v, (wordBytes v).length = 2 := fun _ => rfl
  have h4 : ∀ v, (longBytes v).length = 4 := fun _ => rfl
  have h3 : ∀ v, (encodeOutputField v).length = 3 := fun _ => rfl
  simp only [h2, h4, h3, List.length_cons, List.length_nil]

/-- The statement for a command with one known encoding. -/
theorem requestKind_of_encode {i : Instr} {kind : Byte} {body : List Byte}
    (h : encodeRequest i = some (kind, body))
    (hk : i.wf = true → 1 ≤ kind.toNat ∧ kind.toNat ≤ 0x13 ∧ body.length ≤ 120) :
    RequestKind.Statement i := by
  intro hw k b hb
  rw [h] at hb
  cases hb
  exact hk hw

/-- The statement for a command that is not a request. -/
theorem requestKind_of_none {i : Instr} (h : encodeRequest i = none) : RequestKind.Statement i := by
  intro _ k b hb
  rw [h] at hb
  cases hb

theorem RequestKind.sensorByteArrival (sp : Spout) (byte : Byte) :
    RequestKind.Statement (.sensorByteArrival sp byte) :=
  requestKind_of_none rfl

theorem RequestKind.sensorCharacterError (sp : Spout) :
    RequestKind.Statement (.sensorCharacterError sp) :=
  requestKind_of_none rfl

theorem RequestKind.collectionGapExpiry (sp : Spout) :
    RequestKind.Statement (.collectionGapExpiry sp) :=
  requestKind_of_none rfl

theorem RequestKind.frameWatchExpiry (sp : Spout) :
    RequestKind.Statement (.frameWatchExpiry sp) :=
  requestKind_of_none rfl

theorem RequestKind.zeroTrackExpiry (sp : Spout) :
    RequestKind.Statement (.zeroTrackExpiry sp) :=
  requestKind_of_none rfl

theorem RequestKind.inputRawChange (i : InputId) (active : Bool) :
    RequestKind.Statement (.inputRawChange i active) :=
  requestKind_of_none rfl

theorem RequestKind.debounceExpiry (i : InputId) :
    RequestKind.Statement (.debounceExpiry i) :=
  requestKind_of_none rfl

theorem RequestKind.gateTravelExpiry (sp : Spout) (g : Gate) :
    RequestKind.Statement (.gateTravelExpiry sp g) :=
  requestKind_of_none rfl

theorem RequestKind.readStation : RequestKind.Statement .readStation :=
  requestKind_of_encode rfl fun _ => by decide

theorem RequestKind.configStation (f : StationFields) :
    RequestKind.Statement (.configStation f) :=
  requestKind_of_encode rfl fun _ => by
    simp [encodeStationFields, encodeOutputField, wordBytes, tripleBytes]

theorem RequestKind.configLane (f : LaneFields) :
    RequestKind.Statement (.configLane f) :=
  requestKind_of_encode rfl fun _ => by
    simp [encodeLaneFields, longBytes]

theorem RequestKind.configSpout (f : SpoutFields) :
    RequestKind.Statement (.configSpout f) :=
  requestKind_of_encode rfl fun _ =>
    ⟨by decide, by decide, (encodeSpoutFields_length f).le.trans (by decide)⟩

theorem RequestKind.readSpout (spout : Byte) (options : Byte) :
    RequestKind.Statement (.readSpout spout options) :=
  requestKind_of_encode rfl fun _ => by simp

theorem RequestKind.setCalibration (spout : Byte) (span : BitVec 32) (zero : BitVec 16) (corr : BitVec 32) :
    RequestKind.Statement (.setCalibration spout span zero corr) :=
  requestKind_of_encode rfl fun _ => by
    simp [longBytes, wordBytes]

theorem RequestKind.zero (spout : Byte) :
    RequestKind.Statement (.zero spout) :=
  requestKind_of_encode rfl fun _ => by simp

theorem RequestKind.loadOrder (f : OrderFields) :
    RequestKind.Statement (.loadOrder f) :=
  requestKind_of_encode rfl fun h => by
    have ht : f.tag.length = 8 := by simpa [Instr.wf, tagWf] using h
    simp [encodeOrderFields, encodeOptField, longBytes, ht]

theorem RequestKind.start (spout : Byte) :
    RequestKind.Statement (.start spout) :=
  requestKind_of_encode rfl fun _ => by simp

theorem RequestKind.stop (spout : Byte) :
    RequestKind.Statement (.stop spout) :=
  requestKind_of_encode rfl fun _ => by simp

theorem RequestKind.withdrawVehicle (tag : List Byte) :
    RequestKind.Statement (.withdrawVehicle tag) :=
  requestKind_of_encode rfl fun h => by
    have ht : tag.length = 8 := by simpa [Instr.wf, tagWf] using h
    simp [ht]

theorem RequestKind.readOrder (slot : Byte) :
    RequestKind.Statement (.readOrder slot) :=
  requestKind_of_encode rfl fun _ => by simp

theorem RequestKind.releaseOrder (slot : Byte) :
    RequestKind.Statement (.releaseOrder slot) :=
  requestKind_of_encode rfl fun _ => by simp

theorem RequestKind.readEvents (n : Byte) :
    RequestKind.Statement (.readEvents n) :=
  requestKind_of_encode rfl fun _ => by simp

theorem RequestKind.setOutputs (setMask : Byte) (clearMask : Byte) :
    RequestKind.Statement (.setOutputs setMask clearMask) :=
  requestKind_of_encode rfl fun _ => by simp

theorem RequestKind.clearLockout (spout : Byte) :
    RequestKind.Statement (.clearLockout spout) :=
  requestKind_of_encode rfl fun _ => by simp

theorem RequestKind.readLane (lane : Byte) :
    RequestKind.Statement (.readLane lane) :=
  requestKind_of_encode rfl fun _ => by simp

theorem RequestKind.saveCalibration : RequestKind.Statement .saveCalibration :=
  requestKind_of_encode rfl fun _ => by decide

theorem RequestKind.restart : RequestKind.Statement .restart :=
  requestKind_of_encode rfl fun _ => by decide

theorem RequestKind.feedWaitExpiry (sp : Spout) :
    RequestKind.Statement (.feedWaitExpiry sp) :=
  requestKind_of_none rfl

theorem RequestKind.primeExpiry (sp : Spout) :
    RequestKind.Statement (.primeExpiry sp) :=
  requestKind_of_none rfl

theorem RequestKind.settleExpiry (sp : Spout) :
    RequestKind.Statement (.settleExpiry sp) :=
  requestKind_of_none rfl

theorem RequestKind.suspendExpiry (sp : Spout) :
    RequestKind.Statement (.suspendExpiry sp) :=
  requestKind_of_none rfl

theorem RequestKind.weighbridgeByteArrival (l : Lane) (byte : Byte) :
    RequestKind.Statement (.weighbridgeByteArrival l byte) :=
  requestKind_of_none rfl

theorem RequestKind.weighbridgeCharacterError (l : Lane) :
    RequestKind.Statement (.weighbridgeCharacterError l) :=
  requestKind_of_none rfl

theorem RequestKind.weighbridgeGapExpiry (l : Lane) :
    RequestKind.Statement (.weighbridgeGapExpiry l) :=
  requestKind_of_none rfl

theorem RequestKind.lossTimerExpiry (l : Lane) :
    RequestKind.Statement (.lossTimerExpiry l) :=
  requestKind_of_none rfl

theorem RequestKind.tareTimerExpiry (l : Lane) :
    RequestKind.Statement (.tareTimerExpiry l) :=
  requestKind_of_none rfl

theorem RequestKind.grossTimerExpiry (l : Lane) :
    RequestKind.Statement (.grossTimerExpiry l) :=
  requestKind_of_none rfl

theorem RequestKind.stationByteArrival (byte : Byte) :
    RequestKind.Statement (.stationByteArrival byte) :=
  requestKind_of_none rfl

theorem RequestKind.stationCharacterError : RequestKind.Statement .stationCharacterError :=
  requestKind_of_none rfl

theorem RequestKind.stationGapExpiry : RequestKind.Statement .stationGapExpiry :=
  requestKind_of_none rfl

theorem RequestKind.turnaroundExpiry : RequestKind.Statement .turnaroundExpiry :=
  requestKind_of_none rfl

theorem RequestKind.replySent : RequestKind.Statement .replySent :=
  requestKind_of_none rfl

theorem RequestKind.storePartComplete : RequestKind.Statement .storePartComplete :=
  requestKind_of_none rfl

theorem RequestKind.storeWriteComplete (held : Bool) :
    RequestKind.Statement (.storeWriteComplete held) :=
  requestKind_of_none rfl

theorem RequestKind.storePartTimeout : RequestKind.Statement .storePartTimeout :=
  requestKind_of_none rfl

theorem RequestKind.supplyFall : RequestKind.Statement .supplyFall :=
  requestKind_of_none rfl

theorem RequestKind.supplyStableExpiry : RequestKind.Statement .supplyStableExpiry :=
  requestKind_of_none rfl

theorem RequestKind.resetTerminalChange (asserted : Bool) :
    RequestKind.Statement (.resetTerminalChange asserted) :=
  requestKind_of_none rfl

theorem RequestKind.resetFilterExpiry : RequestKind.Statement .resetFilterExpiry :=
  requestKind_of_none rfl

theorem RequestKind.resetAssertExpiry : RequestKind.Statement .resetAssertExpiry :=
  requestKind_of_none rfl

theorem RequestKind.warmTerminalChange (asserted : Bool) :
    RequestKind.Statement (.warmTerminalChange asserted) :=
  requestKind_of_none rfl

theorem RequestKind.warmFilterExpiry : RequestKind.Statement .warmFilterExpiry :=
  requestKind_of_none rfl

theorem RequestKind.warmAssertExpiry : RequestKind.Statement .warmAssertExpiry :=
  requestKind_of_none rfl

theorem RequestKind.supplyRise : RequestKind.Statement .supplyRise :=
  requestKind_of_none rfl

end Sys2Proof.Laws
end

