-- ==== Sys2Proof/Tests/Slice0.lean ====
section
/-! SUPPORT. Tests: the checks of WellFormed, request bodies written out from the spec, the spec's worked figures, and, for
every statement with hypotheses, a state and operands that meet them. -/

namespace Sys2Proof.Tests

open Sys2Proof.Machine Sys2Proof.Safety

/-! ## WellFormed -/

/-- A tag of 8 characters is well formed in both commands that carry one, and one of 7 or 9 is refused. -/
def orderWith (tag : List Byte) : OrderFields :=
  { spout := 0, tag, compartment := 1, product := 1, target := 0x000003E8, overTol := ⟨0, 0⟩
    underTol := ⟨1, 5⟩, dribble := ⟨0, 0⟩ }

theorem test_wf_tags :
    (Instr.loadOrder (orderWith (List.replicate 8 0x41))).wf = true ∧
      (Instr.withdrawVehicle (List.replicate 8 0x41)).wf = true := by decide

theorem test_wf_refuses_short_order_tag :
    (Instr.loadOrder (orderWith (List.replicate 7 0x41))).wf = false := by decide

theorem test_wf_refuses_long_withdraw_tag :
    (Instr.withdrawVehicle (List.replicate 9 0x41)).wf = false := by decide

/-! ## Request bodies (R179, R191), written out byte by byte -/

theorem test_decode_load_order :
    decodeRequest 0x08
        [0x02, 0x54, 0x52, 0x55, 0x43, 0x4B, 0x30, 0x30, 0x31, 0x03, 0x0F, 0x01, 0xC9, 0xC3, 0x80,
          0x00, 0x00, 0x00, 0x00, 0x00, 0x01, 0x00, 0x00, 0x00, 0x05, 0x00, 0x00, 0x00, 0x00, 0x07] =
      some
        (.loadOrder
          { spout := 2, tag := [0x54, 0x52, 0x55, 0x43, 0x4B, 0x30, 0x30, 0x31], compartment := 3
            product := 15, target := 30000000, overTol := ⟨0, 0⟩, underTol := ⟨1, 5⟩
            dribble := ⟨0, 7⟩ }) := by decide

theorem test_decode_set_calibration :
    decodeRequest 0x06 [0x01, 0x00, 0x00, 0x50, 0x00, 0x04, 0xB0, 0xFF, 0xFF, 0xFF, 0xFE] =
      some (.setCalibration 1 20480 1200 0xFFFFFFFE) := by decide

theorem test_decode_config_lane :
    decodeRequest 0x03 [0x02, 0x01, 0x0A, 0x1E, 0x1F, 0x20, 0x02, 0x00, 0x4C, 0x4B, 0x40] =
      some
        (.configLane
          { lane := 2, enable := 1, nStable := 10, tareTimeout := 30, grossTimeout := 31
            acceptBand := 32, alpha := 2, nMin := 5000000 }) := by decide

theorem test_decode_config_station :
    decodeRequest 0x02
        [0x02, 0x14, 0x03, 0x01, 0xFF, 0x3F, 0xFF, 0xFE, 0x01, 0x02, 0x03, 0x04, 0x05, 0x06, 0x07, 0x08,
          0x09, 0x0A, 0x0B, 0x0C] =
      some
        (.configStation
          { g := 2, debounce := 20, turnaround := 3, mask := 0x01FF, enables := 0x3FFFFE
            aux := ⟨⟨1, 2, 3⟩, ⟨4, 5, 6⟩, ⟨7, 8, 9⟩, ⟨10, 11, 12⟩⟩ }) := by decide

theorem test_decode_config_spout :
    decodeRequest 0x04
        [0x03, 0x01, 0x08, 0x01, 0x90, 0x13, 0x88, 0x05, 0xDC, 0x00, 0x04, 0x93, 0xE0, 0x07, 0x08, 0x0F,
          0xA0, 0x3A, 0x98, 0x01, 0xF4, 0x04, 0xB0, 0x04, 0x00, 0x00, 0xC3, 0x50, 0x00, 0x01, 0x86, 0xA0,
          0x00, 0x00, 0xC3, 0x50, 0x00, 0x00, 0xC3, 0x51, 0x14, 0x02, 0x58, 0x01, 0x2C, 0x01, 0x03, 0x00] =
      some
        (.configSpout
          { spout := 3, product := 1, w := 8, zeroBand := 400, zeroTrack := 5000, prime := 1500
            dribble := 300000, flight := 1800, settle := 4000, settleMax := 15000, leak := 500
            gateTravel := 1200, gp := 4, lmax := 50000, adaptBand := 100000, overTol := 50000
            underTol := 50001, subLimit := 20, feedWait := 600, suspend := 300
            beacon := ⟨1, 3, 0⟩ }) := by decide

theorem test_decode_short_requests :
    decodeRequest 0x09 [0x03] = some (.start 3) ∧ decodeRequest 0x0F [0x81, 0x7E] = some (.setOutputs 0x81 0x7E) ∧
      decodeRequest 0x05 [0x01, 0x01] = some (.readSpout 1 1) ∧ decodeRequest 0x13 [] = some .restart := by
  decide

/-- A body of another size and a kind that the table lacks decode to nothing. -/
theorem test_decode_refuses :
    decodeRequest 0x09 [] = none ∧ decodeRequest 0x00 [] = none ∧ decodeRequest 0x14 [] = none := by decide

/-- The opcode table gives no row any bits. -/
theorem test_table_spells_none : decodeTableWord 8 0x09 = none := rfl

/-! ## The spec's figures -/

set_option maxRecDepth 4000 in
/-- R176: the check value of the CRC over the characters 1 to 9 is 0x29B1. -/
theorem test_crc_check_value :
    crc16 [0x31, 0x32, 0x33, 0x34, 0x35, 0x36, 0x37, 0x38, 0x39] = 0x29B1 := by decide

/-- Section 1.10: the check of the good frame is 0xD1 and the one of the noise frame 0x2B. -/
theorem test_sensor_checks :
    xorBytes [0xA0, 0x30, 0x39, 0x30, 0x48] = 0xD1 ∧ xorBytes [0xB2, 0xA0, 0x30, 0x39, 0x30] = 0x2B := by
  decide

/-- Section 2.10: 12,345 against a zero of 1,200 at the spans 20,480 and 20,562. -/
theorem test_flow_at_two_spans :
    rawFlow (12345 - 1200) 20480 = 55725 ∧ rawFlow (12345 - 1200) 20562 = 55948 := by decide

/-- Section 2.11: q_filt after items 2 and 5. -/
theorem test_filter_means :
    roundedMean [55725, 55725, 55725, 55800] = 55744 ∧ roundedMean [55800, 55744, 55749, 200000] = 91823 := by
  decide

/-- Section 2.12: the candidate of sixteen counts. -/
theorem test_zero_candidate :
    roundedMean (List.replicate 8 1198 ++ List.replicate 8 1202) = 1200 := by decide

/-- Section 6.8: the preact and the thresholds at the coarse cutoff, and at the closing gate. -/
theorem test_thresholds :
    preact 30000000 55900 1800 4000 = 104620 ∧ fineThreshold 30000000 104620 = 29895380 ∧
      coarseThreshold 30000000 300000 104620 = 29595380 ∧ preact 30000000 55800 1800 4000 = 104440 := by decide

/-- Section 6.10: the learning steps. -/
theorem test_learning_steps :
    learningStep 1001 4 = 501 ∧ learningStep (-1001) 4 = -501 ∧ learningStep (-12003) 3 = -4501 ∧
      learningStep 9000 4 = 4500 ∧ learningStep 40000 0 = 0 := by decide

/-- Section 9.10: the correction of window 7; section 9.11: the one of window 43. -/
theorem test_span_steps :
    spanStep 20480 240000 2 30000000 = 82 ∧ spanStep 20480 39100 2 18000900 = 22 := by decide

/-- A window of section 9.12, by the contributions of A and B, the substituted count of A, and the two readings. -/
def windowOf (a b subs : Nat) (tare gross : Option Nat) (lost : Bool) : Window :=
  { Window.cold with
    tare := tare, gross := gross, bridgeLost := lost
    contrib := ⟨⟨a, subs, 0, false⟩, ⟨b, 0, 0, false⟩⟩ }

theorem test_damaged_windows :
    (windowOf 24100000 0 0 none (some 44560) false).outcome .default = .noTare ∧
      (windowOf 24100000 0 0 (some 14320) (some 44560) true).outcome .default = .weighbridgeLost ∧
      (windowOf 12000000 9500000 0 (some 0) (some 21500) false).outcome .default = .mixed ∧
      (windowOf 3200000 0 0 (some 0) (some 3200) false).outcome .default = .belowMinimum := by decide

theorem test_judged_windows :
    (windowOf 30000000 0 2 (some 0) (some 30000) false).outcome .default = .degraded ∧
      (windowOf 30000000 0 0 (some 14320) (some 45320) false).outcome .default = .outOfBand ∧
      (windowOf 60 0 0 (some 0) (some 30000) false).outcome .default = .belowMinimum ∧
      (windowOf 30000000 0 0 (some 14320) (some 44560) false).outcome .default = .corrected := by decide

/-- The state after reset is what a cold start with the never saved image leaves of itself. -/
theorem test_reset_is_a_cold_start : State.reset.coldStart .powerUp = State.reset := by decide

/-! ## One step each -/

/-- The state that a command leaves. -/
def after (c : Instr) (s : State) : State :=
  match exec c s with
  | .next t => t
  | _ => s

/-- Section 1.10: the byte that completes the noise frame leaves the true frame's five bytes collected. -/
theorem test_noise_frame_is_reexamined :
    ((after (.sensorByteArrival .a 0x48)
        (State.reset.updSlr .a fun r =>
          { r with framing := .collect [0xB2, 0xA0, 0x30, 0x39, 0x30] 1, badCheck := 7 })).slr.get
      .a) =
      { Slr.cold with framing := .collect [0xA0, 0x30, 0x39, 0x30, 0x48] 2, badCheck := 8 } := by decide

/-- R181: a start byte drops the reply that waits, and the dropped-reply count shows it. -/
theorem test_start_byte_drops_reply :
    (after (.stationByteArrival 0xA5) (after .readStation State.reset)).sl.tx = .idle ∧
      (after (.stationByteArrival 0xA5) (after .readStation State.reset)).sl.dropped = 1 := by decide

/-- R57: an unknown source is stored as MANUAL and a spout argument of 9 as spout D. -/
theorem test_sources_are_clamped :
    storedAs ⟨7, 9, 2⟩ = ⟨0, 9, 1⟩ ∧ storedAs ⟨1, 9, 0⟩ = ⟨1, 3, 0⟩ ∧ storedAs ⟨5, 0, 1⟩ = ⟨5, 2, 1⟩ := by
  decide

/-- R190: RESTARTED(warm) is the first event that a warm restart appends. -/
theorem test_warm_restart_event :
    (State.reset.warmRestart .warmTerminal).rq.events.getLast? =
      some ⟨.station, 0, .restarted true .warmTerminal⟩ := by decide

/-! ## States that meet the statements' hypotheses

Each theorem is named after its statement. It gives, clause by clause, a state and operands that meet the hypotheses
together, at the ends of a range where a clause has one. -/

theorem settled_of_condition {s : State} (h : s.fa.condition ≠ .normal) : GrantsSettled s :=
  fun hn => absurd hn h

theorem settled_of_empty {s : State} (h : s.fa.requests = []) : GrantsSettled s := fun _ hn => absurd h hn

/-- No load, no reset, the link idle, the feed condition UNKNOWN and nobody waiting. -/
def quiet : State := State.reset

theorem quiet_running : Running quiet := rfl
theorem quiet_ready : Ready quiet := ⟨rfl, rfl⟩
theorem quiet_settled : GrantsSettled quiet := settled_of_empty rfl

/-- A record of 1,000,000 g for spout A with a mass. -/
def loadOf (mass : Nat) : SlotRec :=
  { SlotRec.cleared with state := .active, spout := some .a, target := 1000000, mass }

/-- Spout A in a state with slot 0 active and a stage timer due at 4, its deadline at 9. -/
def loading (st : SpoutState) (stage : Option StageName) (mass : Nat) : State :=
  { quiet with
    sc :=
      quiet.sc.set .a
        { Sc.cold with
          state := st, active := some 0, stage := stage.map fun n => ⟨n, 4⟩, deadline := some 9
          lineView := .live, spoutDownView := .active }
    ot := quiet.ot.setSlot 0 (loadOf mass) }

/-- Spout A in COARSE with the grant, everything in its place: gates open, lines LIVE, feed NORMAL, in slot 0. -/
def coarseA : State :=
  { quiet with
    sc :=
      quiet.sc.set .a
        { Sc.cold with state := .coarse, active := some 0, grantHeld := true, lineView := .live }
    fc :=
      quiet.fc.set .a
        { quiet.fc.a with
          active := some 0, idleView := false, lineView := .live, window := [55900, 55900], qFilt := 55900
          residue := 250, history := [12380] }
    slr := quiet.slr.set .a { Slr.cold with line := .live, watch := some 30 }
    ot := quiet.ot.setSlot 0 (loadOf 500000)
    fa := { quiet.fa with condition := .normal, feedHoldView := .inactive, airOkView := .active,
                          holders := quiet.fa.holders.set .a true }
    iob :=
      { quiet.iob with
        coarseOut := quiet.iob.coarseOut.set .a true
        fineOut := quiet.iob.fineOut.set .a true
        aeration := quiet.iob.aeration.set .a true
        gates := quiet.iob.gates.set .a ⟨⟨.opened, none⟩, ⟨.opened, none⟩⟩
        beacon := quiet.iob.beacon.set .a ⟨.beaconDefault 0, false, true⟩
        views :=
          { quiet.iob.views with
            active := quiet.iob.views.active.set .a true
            flowing := quiet.iob.views.flowing.set .a true
            feedHeld := false } } }

/-- An input of spout A that is about to settle at 20, from a filtered level to a raw one. -/
def settlingInput (s : State) (i : InputId) (raw : Bool) (filtered : Level) : State :=
  s.setInput i { raw, filtered, timer := some 20, latch := false, report := true }

/-- Spout A with every permissive met and its line LIVE, and no event in the queue. -/
def permitted : State :=
  let up : Input := { raw := true, filtered := .active, timer := none, latch := false, report := true }
  let down : Input := { raw := false, filtered := .inactive, timer := none, latch := false, report := true }
  { quiet with
    iob := { quiet.iob with inputs := quiet.iob.inputs.set .a ⟨up, up, down, up, up⟩ }
    sc := quiet.sc.set .a { Sc.cold with lineView := .live }
    fc := quiet.fc.set .a { quiet.fc.a with lineView := .live }
    rq := { quiet.rq with events := [] } }

/-- Slot 0 queued at spout A. -/
def withOrder (s : State) : State :=
  { s with ot := { s.ot.setSlot 0 { loadOf 0 with state := .queued } with queues := s.ot.queues.set .a [0] } }

/-! ### The machine as a whole -/

theorem witness_StepRunsTheFrontCommand :
    ({ quiet with pending := [.supplyFall, .restart] } : State).pending = [.supplyFall, .restart] := rfl

theorem witness_EmptyQueueRunsTheClock :
    quiet.pending = [] ∧ (∀ d ∈ quiet.timers, quiet.now < d.1) ∧
      ({ quiet with now := 20 } : State).pending = [] ∧
      ∃ d ∈ ({ quiet with now := 20 } : State).timers, d.1 ≤ 20 :=
  ⟨rfl, by decide, rfl, (20, .debounceExpiry .airOk), by decide⟩

theorem witness_HeldResetTakesNothing :
    ¬ Running { quiet with rst := { quiet.rst with held := some .powerUp } } ∧
      actsInReset (.start 0) = false ∧ actsInReset .turnaroundExpiry = false :=
  ⟨by unfold Running; decide, rfl, rfl⟩

/-! ### Requests and their frames -/

theorem witness_DecodeAndEncodeAgree :
    (Instr.withdrawVehicle (List.replicate 8 0x20)).wf = true ∧
      encodeRequest (.withdrawVehicle (List.replicate 8 0x20)) = some (0x0B, List.replicate 8 0x20) ∧
      decodeRequest 0x13 [] = some .restart := by decide

theorem witness_RequestFrameIsItsRequest (a : Nat) (ha : a = 1 ∨ a = 31) :
    ∃ s : State, Running s ∧ s.sl.rx = .listen ∧
      (∃ p t, s.sl.tx = .waiting p t ∧ p.kind ≠ 0x13) ∧ s.sl.address = a ∧ 1 ≤ a ∧ a ≤ 31 ∧
      (Instr.start 3).wf = true ∧ encodeRequest (.start 3) = some (0x09, [3]) :=
  ⟨{ quiet with sl := { quiet.sl with address := a, tx := .waiting ⟨0x01, ⟨.ok, []⟩⟩ 3 } }, rfl, rfl,
    ⟨_, _, rfl, by decide⟩, rfl, by omega, by omega, rfl, rfl⟩

/-- A link that has received a frame but for the last byte of its CRC. -/
def received (covered : List Byte) (crc : BitVec 16) : State :=
  { quiet with sl := { quiet.sl with rx := .frame (covered ++ [crc.extractLsb' 8 8]) 5 } }

theorem witness_CompleteFramesAreTested (covered : List Byte) (crc : BitVec 16) :
    Running (received covered crc) ∧ (received covered crc).sl.tx = .idle ∧
      (received covered crc).sl.rx = .frame (covered ++ [crc.extractLsb' 8 8]) 5 ∧
      (List.replicate 120 (0 : Byte)).length ≤ 120 ∧ ([] : List Byte).length ≤ 120 :=
  ⟨rfl, rfl, rfl, by decide, by decide⟩

set_option maxRecDepth 4000 in
theorem witness_CompleteFramesAreTested_clauses :
    crc16 [1, 1, 0] ≠ 0 ∧ ((2 : Byte).toNat ≠ (received [] 0).sl.address) ∧
      ((1 : Byte).toNat = (received [] 0).sl.address) ∧ 0x80 ≤ (0x80 : Byte).toNat ∧
      (0x14 : Byte).toNat < 0x80 ∧ 0x13 < (0x14 : Byte).toNat ∧ (0x00 : Byte).toNat < 0x01 ∧
      bodySize 0x01 = some 0 ∧ ([7] : List Byte).length ≠ 0 ∧
      decodeRequest 0x01 [] = some .readStation := by decide

theorem witness_StationLineFindsFrames :
    (quiet.sl.tx = .idle ∧ quiet.sl.rx = .listen) ∧
      (∀ b1 b2 : Byte, ([b1, b2] : List Byte).length = 2) ∧
      120 < (121 : Byte).toNat ∧ (byteAt 2 ([1, 1] ++ [120])).toNat ≤ 120 ∧
      ([1, 1] : List Byte).length + 1 < 3 + (byteAt 2 ([1, 1] ++ [0])).toNat + 2 :=
  ⟨⟨rfl, rfl⟩, fun _ _ => rfl, by decide, by decide, by decide⟩

/-- Among them an OK to RESTART and a RESTART answered BAD_LENGTH. -/
theorem witness_RepliesWaitAndGoOut (kind : Byte) (status : Status) :
    ∃ (s u : State) (p : PendingReply) (frame : List Byte),
      Running s ∧ s.sl.tx = .waiting p 3 ∧ s.sl.rx = .listen ∧ p.kind = kind ∧ p.reply.status = status ∧
        Running u ∧ u.sl.tx = .sending p frame :=
  ⟨{ quiet with sl := { quiet.sl with tx := .waiting ⟨kind, ⟨status, []⟩⟩ 3 } },
    { quiet with sl := { quiet.sl with tx := .sending ⟨kind, ⟨status, []⟩⟩ [0xA5] } }, _, _, rfl, rfl, rfl, rfl,
    rfl, rfl, rfl⟩

theorem witness_RequestsAreAnswered : Ready quiet ∧ encodeRequest .restart = some (0x13, []) :=
  ⟨quiet_ready, rfl⟩

/-! ### What every step keeps -/

theorem coarseA_steps : ∃ t, step coarseA = .next t := ⟨_, rfl⟩

theorem witness_StepKeepsQueueAndGrantLimits :
    QueueBounded coarseA ∧ GrantLimit coarseA ∧ GrantsSettled coarseA ∧ ∃ t, step coarseA = .next t :=
  ⟨by unfold QueueBounded; decide, by unfold GrantLimit; decide, settled_of_empty rfl, coarseA_steps⟩

theorem witness_StepKeepsFeedPlaces : FeedPlaces coarseA ∧ ∃ t, step coarseA = .next t :=
  ⟨by simp only [FeedPlaces, Spout.forall_iff]; decide, coarseA_steps⟩

theorem witness_StepKeepsGatesPermittedAndSupervised :
    GatePermissions coarseA ∧ GatesSupervised coarseA ∧ ∃ t, step coarseA = .next t :=
  ⟨by simp only [GatePermissions, Spout.forall_iff]; decide,
    by simp only [GatesSupervised, Spout.forall_iff, Gate.forall_iff, Running]; decide, coarseA_steps⟩

theorem witness_StepKeepsOutputsExact :
    ViewsExact coarseA ∧ OutputsExact coarseA ∧ ∃ t, step coarseA = .next t :=
  ⟨by simp only [ViewsExact, Spout.forall_iff, Lane.forall_iff]; decide,
    by simp only [OutputsExact, Spout.forall_iff, Running]; decide, coarseA_steps⟩

theorem witness_StepKeepsRanges :
    FlowRanges coarseA ∧ CalibrationRanges coarseA ∧ LinesFramed coarseA ∧ ∃ t, step coarseA = .next t :=
  ⟨by simp only [FlowRanges, Spout.forall_iff]; decide,
    ⟨by simp only [CalibrationIn, Spout.forall_iff]; decide,
      by simp only [ItemsCalibrated, CalibrationIn, Spout.forall_iff]; decide,
      fun _ _ _ h => by cases h⟩,
    ⟨fun sp => by cases sp <;> exact ⟨trivial, by decide, by decide, by decide, by decide⟩,
      fun l => by cases l <;> exact ⟨trivial, by decide, by decide⟩⟩, coarseA_steps⟩

theorem coarseA_placed : OrdersPlaced coarseA := by
  refine ⟨fun sp => ?_, fun i => ⟨?_, ?_⟩⟩
  · cases sp <;> exact ⟨by decide, by decide, by decide, by decide, by decide, by decide, by decide⟩
  · revert i; decide
  · revert i; decide

theorem witness_StepKeepsOrdersPlaced :
    FeedPlaces coarseA ∧ OrdersPlaced coarseA ∧ ∃ t, step coarseA = .next t :=
  ⟨witness_StepKeepsFeedPlaces.1, coarseA_placed, coarseA_steps⟩

theorem witness_StepKeepsTimersPlaced :
    FeedPlaces coarseA ∧ OrdersPlaced coarseA ∧ StagesPlaced coarseA ∧ WindowsPlaced coarseA ∧
      ∃ t, step coarseA = .next t :=
  ⟨witness_StepKeepsFeedPlaces.1, coarseA_placed,
    by simp only [StagesPlaced, Spout.forall_iff]; decide,
    fun l => by
      cases l <;>
        exact ⟨rfl, fun p => by cases p <;> decide, fun h => absurd h (by decide),
          fun _ p => by cases p <;> decide, fun h => absurd h (by decide)⟩,
    coarseA_steps⟩

/-! ### Sensor lines and flow -/

/-- Spout A's receiver with five bytes collected, in a line condition, with a restore run. -/
def sensing (line : LineCond) (bytes : List Byte) (run subRun : Nat) : State :=
  { quiet with
    slr :=
      quiet.slr.set .a
        { Slr.cold with
          framing := .collect bytes 2, line, watch := some 30, goodRun := run, subRun }
    fc := quiet.fc.set .a { quiet.fc.a with lineView := line } }

theorem witness_SensorLineFindsFrames :
    (Running quiet ∧ GrantsSettled quiet ∧ (quiet.slr.get .a).framing = .hunt ∧
      0xA0 ≤ (0xA0 : Byte).toNat ∧ (0xBF : Byte).toNat ≤ 0xBF ∧ (0x9F : Byte).toNat < 0xA0 ∧
      0xBF < (0xC0 : Byte).toNat) ∧
    (∀ bytes, Running (sensing .lost bytes 2 0) ∧ GrantsSettled (sensing .lost bytes 2 0) ∧
      ((sensing .lost bytes 2 0).slr.get .a).framing = .collect bytes 2) ∧
    ([0xA0, 0, 0, 0] : List Byte).length < 5 ∧ (0xA0 ^^^ 0 ^^^ 0 ^^^ 0 ^^^ 0 : Byte) ≠ 0xA1 :=
  ⟨⟨rfl, quiet_settled, rfl, by decide, by decide, by decide, by decide⟩,
    fun _ => ⟨rfl, settled_of_empty rfl, rfl⟩, by decide, by decide⟩

theorem witness_GoodFrameIsIntegrated :
    let s := sensing .live [0xA0, 0x30, 0x39, 0x30, 0x48] 0 0
    Running s ∧ GrantsSettled s ∧ (s.slr.get .a).framing = .collect [0xA0, 0x30, 0x39, 0x30, 0x48] 2 ∧
      (0xA0 ^^^ 0x30 ^^^ 0x39 ^^^ 0x30 ^^^ 0x48 : Byte) = 0xD1 ∧ (0xA0 : Byte).getLsbD 3 = false ∧
      (s.slr.get .a).line = .live ∧ (s.fc.get .a).lineView = .live ∧ (s.sc.get .a).state ≠ .coarse ∧
      (s.sc.get .a).state ≠ .fine :=
  ⟨rfl, settled_of_empty rfl, rfl, by decide, by decide, rfl, rfl, by decide, by decide⟩

/-- Spout A loads slot 0 in a state, its line LIVE, five bytes of a frame collected. -/
def sampling (st : SpoutState) (bytes : List Byte) (mass : Nat) : State :=
  let l := loading st none mass
  { l with
    slr := (sensing .live bytes 0 17).slr
    fc := l.fc.set .a { l.fc.a with lineView := .live, active := some 0 } }

theorem witness_samples_are_decided (st : SpoutState) (bytes : List Byte) (mass : Nat) :
    let s := sampling st bytes mass
    Running s ∧ GrantsSettled s ∧ (s.slr.get .a).framing = .collect bytes 2 ∧
      (s.slr.get .a).watch = some 30 ∧ (s.slr.get .a).line = .live ∧ (s.fc.get .a).lineView = .live ∧
      (s.slr.get .a).subRun + 2 < (s.params.get .a).subLimit ∧ (s.sc.get .a).active = some 0 ∧
      (s.fc.get .a).active = some 0 ∧ s.fa.requests = [] ∧ (s.sc.get .a).state = st :=
  ⟨rfl, settled_of_empty rfl, rfl, rfl, rfl, rfl, (by decide : 17 + 2 < 20), rfl, rfl, rfl, rfl⟩

/-- Spout A flows at its cutoff with the only grant while spouts C and B wait for it. -/
theorem witness_samples_hand_over (st : SpoutState) (bytes : List Byte) :
    let l := sampling st bytes 1000000
    let s := { l with
               fa := { l.fa with condition := .normal, g := 1, requests := [.c, .b]
                                 holders := (PerSpout.fill false).set .a true } }
    Running s ∧ (s.slr.get .a).framing = .collect bytes 2 ∧ (s.slr.get .a).watch = some 30 ∧
      (s.slr.get .a).line = .live ∧ (s.fc.get .a).lineView = .live ∧
      (s.slr.get .a).subRun + 2 < (s.params.get .a).subLimit ∧ (s.sc.get .a).active = some 0 ∧
      .a ∉ s.fa.requests ∧ (s.sc.get .a).state = st ∧ s.fa.holders.get .a = true :=
  ⟨rfl, rfl, rfl, rfl, rfl, (by decide : 17 + 2 < 20), rfl, (by decide : Spout.a ∉ [Spout.c, .b]), rfl, rfl⟩

theorem witness_MissingSamplesAreSubstituted :
    let s := sensing .live [0xA8, 0, 0, 0, 0] 0 17
    Running s ∧ GrantsSettled s ∧ (s.slr.get .a).line = .live ∧ (s.fc.get .a).lineView = .live ∧
      (s.sc.get .a).state ≠ .coarse ∧ (s.sc.get .a).state ≠ .fine ∧
      (s.slr.get .a).subRun + 2 < (s.params.get .a).subLimit ∧ (s.slr.get .a).watch = some 30 ∧
      (s.slr.get .a).framing = .collect [0xA8, 0, 0, 0, 0] 2 ∧
      (0xA8 ^^^ 0 ^^^ 0 ^^^ 0 ^^^ 0 : Byte) = 0xA8 ∧ (0xA8 : Byte).getLsbD 3 = true :=
  ⟨rfl, settled_of_empty rfl, rfl, rfl, by decide, by decide, by decide, rfl, rfl, by decide, by decide⟩

theorem witness_SubstitutionLimitLosesTheLine :
    (∀ run,
      let s := sensing .live [0xA8, 0, 0, 0, 0] 0 run
      Running s ∧ GrantsSettled s ∧ (s.slr.get .a).line = .live ∧ (s.fc.get .a).lineView = .live ∧
        (s.sc.get .a).state = .idle ∧ (s.slr.get .a).subRun = run ∧ (s.params.get .a).subLimit = 20 ∧
        (s.slr.get .a).watch = some 30 ∧ (s.slr.get .a).framing = .collect [0xA8, 0, 0, 0, 0] 2) ∧
    FeedPlaces (sensing .live [0xA8, 0, 0, 0, 0] 0 18) ∧ 20 ≤ 19 + 1 ∧ 18 + 1 < 20 ∧ 20 ≤ 18 + 2 ∧
    (0xA8 ^^^ 0 ^^^ 0 ^^^ 0 ^^^ 0 : Byte) = 0xA8 ∧ (0xA8 : Byte).getLsbD 3 = true :=
  ⟨fun _ => ⟨rfl, settled_of_empty rfl, rfl, rfl, rfl, rfl, rfl, rfl, rfl⟩,
    by simp only [FeedPlaces, Spout.forall_iff]; decide, by decide, by decide, by decide, by decide, by decide⟩

/-- The same at the default limit while spout A's load flows. -/
theorem witness_SubstitutionLimit_active :
    let l := sampling .coarse [0xA8, 0, 0, 0, 0] 5
    let s := l.updSlr .a fun r => { r with subRun := 18 }
    Running s ∧ FeedPlaces s ∧ (s.slr.get .a).line = .live ∧ (s.fc.get .a).lineView = .live ∧
      (s.sc.get .a).active ≠ none ∧ (s.sc.get .a).state = .coarse ∧ (s.slr.get .a).watch = some 30 ∧
      (s.slr.get .a).subRun + 1 < (s.params.get .a).subLimit ∧
      (s.params.get .a).subLimit ≤ (s.slr.get .a).subRun + 2 :=
  ⟨rfl, by simp only [FeedPlaces, Spout.forall_iff]; decide, rfl, rfl, by decide, rfl, rfl, by decide, by decide⟩

theorem witness_RestoreRunBringsTheLineBack (run : Nat) :
    let s := sensing .lost [0xA0, 0, 0, 0, 1] run 0
    Running s ∧ GrantsSettled s ∧ (s.slr.get .a).line = .lost ∧ (s.sc.get .a).state ≠ .coarse ∧
      (s.sc.get .a).state ≠ .fine ∧ (s.slr.get .a).watch = some 30 ∧
      (s.slr.get .a).framing = .collect [0xA0, 0, 0, 0, 1] 2 ∧
      (0xA0 ^^^ 0 ^^^ 0 ^^^ 0 ^^^ 1 : Byte) = 0xA1 ∧ (0xA0 : Byte).getLsbD 3 = false ∧
      (0xA8 : Byte).getLsbD 3 = true ∧ (s.slr.get .a).goodRun = run ∧ (0 < 2 ∧ 1 < 2) :=
  ⟨rfl, settled_of_empty rfl, rfl, (by decide : SpoutState.idle ≠ .coarse),
    (by decide : SpoutState.idle ≠ .fine), rfl, rfl, by decide, by decide, by decide, rfl, by decide⟩

/-- Spout A's Flow Computer with its zero-track timer due, and these counts held. -/
def zeroDue (history : List Nat) : State :=
  { quiet with fc := quiet.fc.set .a { quiet.fc.a with history, zeroTimer := some 5 } }

theorem witness_ZeroTracking :
    (∀ h, Running (zeroDue h) ∧ ((zeroDue h).fc.get .a).zeroTimer = some 5) ∧
      ((zeroDue []).fc.get .a).history.length = 0 ∧ 0 < ((zeroDue [1000]).fc.get .a).history.length ∧
      (1000 + 1 / 2) / 1 = ((zeroDue [1000]).fc.get .a).zero ∧
      (1400 + 1 / 2) / 1 ≤ ((zeroDue [1400]).fc.get .a).zero + ((zeroDue [1400]).params.get .a).zeroBand ∧
      ((zeroDue [1401]).fc.get .a).zero + ((zeroDue [1401]).params.get .a).zeroBand < (1401 + 1 / 2) / 1 ∧
      ((zeroDue [599]).fc.get .a).zero > (599 + 1 / 2) / 1 + ((zeroDue [599]).params.get .a).zeroBand :=
  ⟨fun _ => ⟨rfl, rfl⟩, by decide⟩

theorem witness_LearningStepIsRoundedAway : (8 : Nat) ≤ 8 ∧ (-500000 : Int).natAbs ≤ 500000 := by decide

/-! ### Inputs, gates and the feed -/

theorem witness_RawChangesAreDebounced :
    Running quiet ∧ GrantsSettled quiet ∧ (quiet.input .airOk).raw = false ∧
      (quiet.input .airOk).filtered ≠ Level.ofRaw true ∧ 0 < quiet.iob.debounce ∧
      (let s := { quiet with iob := { quiet.iob with debounce := 0 } }
       Running s ∧ GrantsSettled s ∧ s.iob.debounce = 0 ∧ (s.input .airOk).filtered ≠ Level.ofRaw true) ∧
      (let s := settlingInput quiet .airOk true .inactive
       Running s ∧ GrantsSettled s ∧ (s.input .airOk).raw ≠ false ∧
         (s.input .airOk).filtered = Level.ofRaw false) :=
  ⟨rfl, quiet_settled, rfl, by decide, by decide, ⟨rfl, settled_of_empty rfl, rfl, by decide⟩,
    ⟨rfl, settled_of_empty rfl, by decide, rfl⟩⟩

theorem witness_SettlingSetsLevelAndLatch (k : SpoutInput) (raw : Bool) (filtered : Level) :
    let s := settlingInput quiet (.spout .a k) raw filtered
    Running s ∧ GrantsSettled s ∧ (s.sc.get .a).state = .idle ∧
      (s.input (.spout .a k)).timer = some 20 ∧ (s.input (.spout .a k)).raw = raw ∧
      (s.input (.spout .a k)).filtered = filtered := by
  cases k <;> exact ⟨rfl, settled_of_empty rfl, rfl, rfl, rfl, rfl⟩

/-- The same at a spout with a load, at a level that is no abort cause. -/
theorem witness_SettlingSetsLevelAndLatch_active (st : SpoutState) (k : SpoutInput) (filtered : Level) :
    let s := settlingInput (loading st none 5) (.spout .a k) (!decide (k = .level)) filtered
    Running s ∧ GrantsSettled s ∧ (s.sc.get .a).state = st ∧ (s.input (.spout .a k)).timer = some 20 ∧
      (s.input (.spout .a k)).raw = !decide (k = .level) ∧ (s.input (.spout .a k)).filtered = filtered ∧
      (s.sc.get .a).vehicleView = .unsettled := by
  cases k <;> exact ⟨rfl, settled_of_empty rfl, rfl, rfl, rfl, rfl, rfl⟩

theorem witness_SwitchSettlingProvesTheGate (g : Gate) (v : GateSup) (raw : Bool) (filtered : Level) :
    let s := (settlingInput quiet (.spout .a (gateSwitch g)) raw filtered).setGate .a g v
    Running s ∧ GrantsSettled s ∧ (s.input (.spout .a (gateSwitch g))).timer = some 20 ∧
      (s.input (.spout .a (gateSwitch g))).raw = raw ∧
      (s.input (.spout .a (gateSwitch g))).filtered = filtered ∧ s.gate .a g = v := by
  cases g <;> exact ⟨rfl, settled_of_empty rfl, rfl, rfl, rfl, rfl⟩

theorem witness_GateFaultsLockTheSpout (g : Gate) (v : GateSup) :
    let s := (settlingInput quiet (.spout .a (gateSwitch g)) false .active).setGate .a g v
    Running s ∧ GrantsSettled s ∧ (s.sc.get .a).state = .idle ∧ s.gate .a g = v ∧
      (s.input (.spout .a (gateSwitch g))).timer = some 20 ∧
      (s.input (.spout .a (gateSwitch g))).raw = false ∧
      (s.input (.spout .a (gateSwitch g))).filtered = .active := by
  cases g <;> exact ⟨rfl, settled_of_empty rfl, rfl, rfl, rfl, rfl, rfl⟩

/-- The same in a state that flows: a gate of COARSE is OPENING, one of FINE is CLOSING. -/
theorem witness_GateFaults_active (g : Gate) (st : SpoutState) (v : GateSup) :
    let s := (settlingInput (loading st none 5) (.spout .a (gateSwitch g)) false .active).setGate .a g v
    Running s ∧ s.fa.requests = [] ∧ (s.sc.get .a).state = st ∧ (s.sc.get .a).active ≠ none ∧ s.gate .a g = v ∧
      (s.input (.spout .a (gateSwitch g))).timer = some 20 := by
  cases g <;> exact ⟨rfl, rfl, rfl, Option.some_ne_none _, rfl, rfl⟩

theorem witness_LiftedSpoutAbortsTheLoad (k : SpoutInput) (hk : k = .spoutDown ∨ k = .vehicle ∨ k = .level) :
    let l := loading .coarse none 5
    let t := l.updSc .a fun c => { c with vehicleView := .active, levelView := .inactive }
    let s := settlingInput t (.spout .a k) (decide (k = .level)) (Level.ofRaw (!decide (k = .level)))
    Running s ∧ s.fa.requests = [] ∧ (s.sc.get .a).state = .coarse ∧ (s.sc.get .a).active ≠ none ∧
      (s.input (.spout .a k)).timer = some 20 ∧ (s.input (.spout .a k)).raw = decide (k = .level) ∧
      (s.input (.spout .a k)).filtered = Level.ofRaw (!decide (k = .level)) ∧
      (s.sc.get .a).spoutDownView ≠ .unsettled ∧ (s.sc.get .a).vehicleView ≠ .unsettled ∧
      (s.sc.get .a).levelView ≠ .unsettled := by
  rcases hk with rfl | rfl | rfl <;>
    exact ⟨rfl, rfl, rfl, by decide, rfl, rfl, rfl, by decide, by decide, by decide⟩

theorem witness_FeedConditionFollowsTheInputs :
    (let s := settlingInput quiet .feedHold true .unsettled
     Running s ∧ (∀ sp, s.fa.holders.get sp = false) ∧ s.fa.requests = [] ∧
       (s.input .feedHold).timer = some 20 ∧ (s.input .feedHold).filtered ≠ .active ∧
       conditionOf .active s.fa.airOkView = s.fa.condition) ∧
    (let s := settlingInput { quiet with fa := { quiet.fa with airOkView := .active } } .feedHold true .inactive
     Running s ∧ (∀ sp, s.fa.holders.get sp = false) ∧ s.fa.requests = [] ∧
       (s.input .feedHold).timer = some 20 ∧ (s.input .feedHold).filtered ≠ .active ∧
       conditionOf .active s.fa.airOkView ≠ s.fa.condition) :=
  ⟨⟨rfl, fun sp => by cases sp <;> rfl, rfl, rfl, by decide, rfl⟩,
    ⟨rfl, fun sp => by cases sp <;> rfl, rfl, rfl, by decide, by decide⟩⟩

/-- The end of a hold during an air fault, and the end of an air fault during a hold, while two spouts wait. -/
theorem witness_FeedCondition_waiting (i : InputId) (hi : i = .feedHold ∨ i = .airOk) :
    let s := settlingInput
      { quiet with
        fa := { quiet.fa with condition := .holdAirFault, feedHoldView := .active, airOkView := .inactive
                              requests := [.d, .a] } }
      i (decide (i = .airOk)) (Level.ofRaw (decide (i = .feedHold)))
    Running s ∧ (∀ sp, s.fa.holders.get sp = false) ∧ s.fa.requests = [.d, .a] ∧ (s.input i).timer = some 20 ∧
      (s.input i).filtered ≠ Level.ofRaw (decide (i = .airOk)) ∧
      conditionOf .inactive s.fa.airOkView = .airFault ∧ conditionOf s.fa.feedHoldView .active = .hold := by
  rcases hi with rfl | rfl <;> exact ⟨rfl, fun sp => by cases sp <;> rfl, rfl, rfl, by decide, rfl, rfl⟩

/-- Spout A waits for the air with a mass. -/
def waiting (mass : Nat) : State :=
  settlingInput
    { loading .waitFeed (some .feedWait) mass with
      fa :=
        { quiet.fa with condition := .airFault, feedHoldView := .inactive, airOkView := .inactive,
                        requests := [.a] } }
    .airOk true .inactive

theorem witness_ReturnOfAirGrantsTheHead :
    (∀ m, Running (waiting m) ∧ (waiting m).fa.condition ≠ .normal ∧
      (waiting m).fa.feedHoldView = .inactive ∧ (waiting m).fa.requests = [.a] ∧
      (Spout.all.filter (waiting m).fa.holders.get).length < (waiting m).fa.g ∧
      ((waiting m).sc.get .a).active = some 0 ∧ ((waiting m).input .airOk).timer = some 20 ∧
      ((waiting m).input .airOk).raw = true ∧ ((waiting m).input .airOk).filtered ≠ .active) ∧
    (reachedBy (waiting 999999) .a 0).fine = false ∧ 0 < ((waiting 999999).params.get .a).prime ∧
    (reachedBy (waiting 1000000) .a 0).fine = true :=
  ⟨fun _ => ⟨rfl, (by decide : FeedCond.airFault ≠ .normal), rfl, rfl, (by decide : 0 < 2), rfl, rfl, rfl,
      (by decide : Level.inactive ≠ .active)⟩, by decide⟩

/-- Three spouts wait for the end of a hold, and one place is taken. -/
theorem witness_EndOfHold_list :
    let w := waiting 5
    let s := settlingInput
      { w with fa := { w.fa with condition := .hold, feedHoldView := .active, airOkView := .active
                                 requests := [.c, .a, .b], holders := w.fa.holders.set .d true } }
      .feedHold false .active
    Running s ∧ s.fa.condition ≠ .normal ∧ s.fa.airOkView = .active ∧ s.fa.requests = [.c, .a, .b] ∧
      (s.input .feedHold).timer = some 20 ∧ (s.input .feedHold).raw = false ∧
      (s.input .feedHold).filtered ≠ .inactive :=
  ⟨rfl, by decide, rfl, rfl, rfl, rfl, by decide⟩

/-- Spout A holds the grant in a state while an input is about to settle. -/
def holding (st : SpoutState) (i : InputId) (raw : Bool) : State :=
  settlingInput
    { loading st none 5 with
      fa :=
        { quiet.fa with condition := .normal, feedHoldView := .inactive, airOkView := .active,
                        holders := (PerSpout.fill false).set .a true } }
    i raw (Level.ofRaw (!raw))

theorem witness_AirFaultAndHoldSuspend :
    (let s := holding .coarse .airOk false
     Running s ∧ FeedPlaces s ∧ s.fa.feedHoldView ≠ .unsettled ∧ s.fa.condition ≠ .airFault ∧
       (s.input .airOk).timer = some 20 ∧ (s.input .airOk).raw = false ∧ (s.input .airOk).filtered ≠ .inactive) ∧
    (let s := holding .aerate .feedHold true
     Running s ∧ FeedPlaces s ∧ s.fa.airOkView ≠ .unsettled ∧ s.fa.condition ≠ .hold ∧
       (s.input .feedHold).timer = some 20 ∧ (s.input .feedHold).raw = true ∧
       (s.input .feedHold).filtered ≠ .active) :=
  ⟨⟨rfl, by simp only [FeedPlaces, Spout.forall_iff]; decide, by decide, by decide, rfl, rfl, by decide⟩,
    rfl, by simp only [FeedPlaces, Spout.forall_iff]; decide, by decide, by decide, rfl, rfl, by decide⟩

/-- Section 8.8: an air fault during a hold, with two holders and one spout that waits. -/
theorem witness_AirFault_in_hold :
    let h := holding .fine .airOk false
    let s := { h with
               fa := { h.fa with condition := .hold, feedHoldView := .active, requests := [.b]
                                 holders := h.fa.holders.set .c true }
               sc := (h.sc.set .b { Sc.cold with state := .waitFeed }).set .c { Sc.cold with state := .coarse } }
    Running s ∧ FeedPlaces s ∧ s.fa.feedHoldView = .active ∧ s.fa.condition ≠ .holdAirFault ∧
      (s.input .airOk).timer = some 20 ∧ (s.input .airOk).raw = false ∧ (s.input .airOk).filtered ≠ .inactive :=
  ⟨rfl, by simp only [FeedPlaces, Spout.forall_iff]; decide, rfl, by decide, rfl, rfl, by decide⟩

/-! ### Requests -/

theorem witness_CodesThatNameNothingAreRefused :
    Ready quiet ∧ 3 < (4 : Byte).toNat ∧ (0 : Byte).toNat = 0 ∧ 2 < (3 : Byte).toNat ∧ 15 < (16 : Byte).toNat ∧
      ({ orderWith (List.replicate 8 0x41) with spout := 4 } : OrderFields).spout = 4 ∧
      (List.replicate 8 (0x41 : Byte)).length = 8 :=
  ⟨quiet_ready, by decide⟩

theorem witness_ReadsReportAndClear :
    Ready quiet ∧ quiet.fa.requests.length ≤ 4 ∧ (quiet.ot.queues.get .a).length ≤ 4 ∧
      (quiet.ot.slot 15).tag.length = 8 :=
  ⟨quiet_ready, by decide⟩

theorem witness_ReadEventsRemovesTheOldest : Ready quiet ∧ 8 < (9 : Byte).toNat ∧ (8 : Byte).toNat ≤ 8 :=
  ⟨quiet_ready, by decide⟩

/-- An order with the first field out of its range that has a number. -/
def badOrder : Nat → OrderFields
  | 2 => orderWith (0x1F :: List.replicate 7 0x7E)
  | 3 => { orderWith (List.replicate 8 0x7E) with compartment := 9 }
  | 4 => { orderWith (List.replicate 8 0x7E) with product := 16 }
  | 5 => { orderWith (List.replicate 8 0x7E) with target := 80000001 }
  | 6 => { orderWith (List.replicate 8 0x7E) with overTol := ⟨2, 0⟩ }
  | 7 => { orderWith (List.replicate 8 0x7E) with underTol := ⟨1, 1000001⟩ }
  | _ => { orderWith (List.replicate 8 0x7E) with dribble := ⟨1, 2000001⟩ }

/-- Whether a field fails its range, as a value. -/
theorem orderFieldFails_iff (f : OrderFields) (n : Nat) :
    orderFieldFails f n ↔
      (n = 2 ∧ ∃ b ∈ f.tag, b.toNat < 0x20 ∨ 0x7E < b.toNat) ∨
      (n = 3 ∧ (f.compartment.toNat < 1 ∨ 8 < f.compartment.toNat)) ∨
      (n = 4 ∧ (f.product.toNat < 1 ∨ 15 < f.product.toNat)) ∨
      (n = 5 ∧ (f.target.toNat < 1000 ∨ 80000000 < f.target.toNat)) ∨
      (n = 6 ∧ (1 < f.overTol.presence.toNat ∨ (f.overTol.presence = 1 ∧ 1000000 < f.overTol.value.toNat))) ∨
      (n = 7 ∧ (1 < f.underTol.presence.toNat ∨
        (f.underTol.presence = 1 ∧ 1000000 < f.underTol.value.toNat))) ∨
      (n = 8 ∧ (1 < f.dribble.presence.toNat ∨ (f.dribble.presence = 1 ∧ 2000000 < f.dribble.value.toNat))) := by
  unfold orderFieldFails
  split <;> simp_all

theorem witness_LoadOrder_fields (n : Nat) (h : 2 ≤ n ∧ n ≤ 8) :
    (badOrder n).spout = spoutCode .a ∧ (badOrder n).tag.length = 8 ∧ orderFieldFails (badOrder n) n ∧
      ∀ m, 2 ≤ m → m < n → ¬ orderFieldFails (badOrder n) m := by
  obtain ⟨h2, h8⟩ := h
  interval_cases n <;>
    refine ⟨rfl, rfl, (orderFieldFails_iff _ _).2 (by decide), fun m hm hn => ?_⟩ <;>
    interval_cases m <;> exact fun hf => absurd ((orderFieldFails_iff _ _).1 hf) (by decide)

theorem witness_LoadOrderTakesTheLowestFreeSlot :
    Ready quiet ∧ (orderWith (List.replicate 8 0x20)).spout = spoutCode .a ∧
      (∀ n : Nat, 2 ≤ n → n ≤ 8 → ¬ orderFieldFails (orderWith (List.replicate 8 0x20)) n) ∧
      (orderWith (List.replicate 8 0x20)).product.toNat = (quiet.params.get .a).product ∧
      (quiet.ot.queues.get .a).length < 4 ∧ (quiet.ot.slot 0).state = .free ∧
      (∀ j : Fin 16, j < 0 → (quiet.ot.slot j).state ≠ .free) :=
  ⟨quiet_ready, rfl,
    fun n h2 h8 => by
      interval_cases n <;> exact fun hf => absurd ((orderFieldFails_iff _ _).1 hf) (by decide),
    by decide⟩

theorem witness_LoadOrder_refusals :
    (let s := { quiet with params := quiet.params.set .a { SpoutParams.default with product := 2 } }
     Ready s ∧ (orderWith []).product.toNat ≠ (s.params.get .a).product) ∧
    (let s := { quiet with ot := { quiet.ot with queues := quiet.ot.queues.set .a [0, 1, 2, 3] } }
     Ready s ∧ 4 ≤ (s.ot.queues.get .a).length) ∧
    (let s := { quiet with ot := { quiet.ot with slots := Vector.replicate 16 (loadOf 0) } }
     Ready s ∧ (s.ot.queues.get .a).length < 4 ∧ ∀ j, (s.ot.slot j).state ≠ .free) :=
  ⟨⟨⟨rfl, rfl⟩, by decide⟩, ⟨⟨rfl, rfl⟩, by decide⟩, ⟨rfl, rfl⟩, by decide, by decide⟩

theorem witness_WithdrawFreesTheVehiclesOrders :
    (Ready quiet ∧ GrantsSettled quiet ∧ (0x7F :: List.replicate 7 (0x20 : Byte)).length = 8 ∧
      (∃ b ∈ (0x7F :: List.replicate 7 (0x20 : Byte)), b.toNat < 0x20 ∨ 0x7E < b.toNat) ∧
      (∀ b ∈ (0x7E :: List.replicate 7 (0x20 : Byte)), 0x20 ≤ b.toNat ∧ b.toNat ≤ 0x7E) ∧
      ∀ q, ¬ ∃ i, (quiet.sc.get q).active = some i ∧
        (quiet.ot.slot i).tag = 0x7E :: List.replicate 7 (0x20 : Byte)) ∧
    (let tag : List Byte := List.replicate 8 0x41
     let l := loading .fine none 5
     let s := { l with ot := l.ot.setSlot 0 { loadOf 5 with tag } }
     Ready s ∧ GrantsSettled s ∧ s.fa.requests = [] ∧ (s.sc.get .a).state = .fine ∧
       ∀ q, (∃ i, (s.sc.get q).active = some i ∧ (s.ot.slot i).tag = tag) ↔ q = .a) :=
  ⟨⟨quiet_ready, quiet_settled, by decide, by decide, by decide, fun q => by cases q <;> decide⟩,
    ⟨⟨rfl, rfl⟩, settled_of_empty rfl, rfl, rfl, fun q => by cases q <;> decide⟩⟩

/-- Spouts A and B load for one vehicle, A in a state and B in SUSPENDED, while spout D waits. -/
theorem witness_Withdraw_several (st : SpoutState) :
    let tag : List Byte := List.replicate 8 0x41
    let l := loading st none 5
    let s := { l with
               sc := l.sc.set .b { Sc.cold with state := .suspended, active := some 3 }
               ot := (l.ot.setSlot 0 { loadOf 5 with tag }).setSlot 3 { loadOf 5 with tag, spout := some .b }
               fa := { l.fa with condition := .normal, g := 1, requests := [.d]
                                 holders := (PerSpout.fill false).set .a true } }
    Ready s ∧ tag.length = 8 ∧ (∀ b ∈ tag, 0x20 ≤ b.toNat ∧ b.toNat ≤ 0x7E) ∧ (s.sc.get .a).state = st ∧
      ((s.sc.get .a).active = some 0 ∧ (s.ot.slot 0).tag = tag) ∧
      ((s.sc.get .b).active = some 3 ∧ (s.ot.slot 3).tag = tag) :=
  ⟨⟨rfl, rfl⟩, rfl, by decide, rfl, ⟨rfl, rfl⟩, rfl, rfl⟩

/-- An Order Table whose slot 15 has ended at spout A. -/
def endedOt : Ot := quiet.ot.setSlot 15 { loadOf 5 with state := .done }

theorem witness_ReleaseFreesAnEndedSlot (last : Option (Fin 16)) :
    let s : State := { quiet with ot := { endedOt with lastEnded := quiet.ot.lastEnded.set .a last } }
    Ready s ∧ (s.ot.slot 15).state = .done ∧ (s.ot.slot 15).spout = some .a ∧ s.ot.lastEnded.get .a = last ∧
      (s.ot.slot 0).state ≠ .done ∧ (s.ot.slot 0).state ≠ .aborted ∧ 15 < (16 : Byte).toNat :=
  ⟨⟨rfl, rfl⟩, (by decide : (endedOt.slot 15).state = .done), (by decide : (endedOt.slot 15).spout = some .a),
    rfl, (by decide : (endedOt.slot 0).state ≠ .done), (by decide : (endedOt.slot 0).state ≠ .aborted),
    by decide⟩

theorem witness_StartIsRefusedInOrder :
    (Ready (loading .fine none 5) ∧ ((loading .fine none 5).sc.get .a).state ≠ .idle) ∧
    (Ready quiet ∧ (quiet.sc.get .a).state = .idle ∧ quiet.ot.queues.get .a = []) ∧
    (let s := withOrder
       { quiet with sc := quiet.sc.set .a { Sc.cold with lockout := ⟨false, false, true, false, false⟩ } }
     Ready s ∧ (s.sc.get .a).state = .idle ∧ s.ot.queues.get .a ≠ [] ∧ (s.sc.get .a).lockout ≠ .empty) ∧
    (Ready (withOrder quiet) ∧ ((withOrder quiet).sc.get .a).lockout = .empty ∧
      ¬ permissivesHold (withOrder quiet) .a) :=
  ⟨⟨⟨rfl, rfl⟩, by decide⟩, ⟨quiet_ready, rfl, rfl⟩, ⟨⟨rfl, rfl⟩, rfl, by decide, by decide⟩, ⟨rfl, rfl⟩, rfl,
    by unfold permissivesHold; decide⟩

theorem witness_StartIsRefusedInOrder_late (line : LineCond) :
    let p := withOrder permitted
    let s := { p with sc := p.sc.set .a { Sc.cold with lineView := line } }
    (Ready s ∧ (s.sc.get .a).state = .idle ∧ s.ot.queues.get .a ≠ [] ∧ (s.sc.get .a).lockout = .empty ∧
      permissivesHold s .a ∧ (s.sc.get .a).lineView = line) ∧
    ({ s with rq := { s.rq with lost := 1 } } : State).rq.lost ≠ 0 :=
  ⟨⟨⟨rfl, rfl⟩, rfl, List.cons_ne_nil _ _, rfl, ⟨rfl, rfl, rfl, rfl, rfl⟩, rfl⟩, Nat.one_ne_zero⟩

theorem witness_StartBeginsTheLoad (enable : Bool) (w : WindowState) (condition : FeedCond) :
    let p := withOrder permitted
    let s := { p with
               lwu := p.lwu.set .l1
                 { p.lwu.l1 with
                   params := { LaneParams.default with enable }, window := { Window.cold with state := w } }
               fa := { p.fa with condition } }
    Ready s ∧ (s.sc.get .a).state = .idle ∧ s.ot.queues.get .a = [0] ∧ (s.sc.get .a).lockout = .empty ∧
      permissivesHold s .a ∧ (s.sc.get .a).lineView = .live ∧ inputChangesOf s .a = 0 ∧ s.rq.lost = 0 ∧
      (s.lwu.get Spout.a.lane).params.enable = enable ∧ s.fa.condition = condition ∧ .a ∉ s.fa.requests ∧
      (s.lwu.get Spout.a.lane).window.state = w ∧ GrantsSettled s :=
  ⟨⟨rfl, rfl⟩, rfl, rfl, rfl, ⟨rfl, rfl, rfl, rfl, rfl⟩, rfl, rfl, rfl, rfl, rfl, List.not_mem_nil, rfl,
    settled_of_empty rfl⟩

theorem witness_StopAbortsByState (st : SpoutState) :
    let s := loading st none 5
    (Ready s ∧ (s.sc.get .a).active = some 0 ∧ (∀ q ∈ s.fa.requests, q = .a) ∧ s.fa.requests = [] ∧
      (s.sc.get .a).state = st) ∧
    Ready quiet ∧ (quiet.sc.get .a).state = .idle :=
  ⟨⟨⟨rfl, rfl⟩, rfl, List.forall_mem_nil _, rfl, rfl⟩, quiet_ready, rfl⟩

/-- Spout A with the only grant or waiting at the head of the list, its stage timer running, and spouts C and B waiting. -/
theorem witness_grants_come_due (st : SpoutState) (n : StageName) (head : List Spout) (g : Bool) :
    let l := loading st (some n) 5
    let s := { l with
               fa := { l.fa with condition := .normal, g := 1, requests := head ++ [.c, .b]
                                 holders := (PerSpout.fill false).set .a g } }
    Ready s ∧ (s.sc.get .a).active = some 0 ∧ (s.sc.get .a).state = st ∧ (s.sc.get .a).stage = some ⟨n, 4⟩ ∧
      (s.sc.get .a).deadline = some 9 ∧ s.fa.requests = head ++ [.c, .b] ∧ s.fa.holders.get .a = g ∧
      (head = [] → .a ∉ s.fa.requests) :=
  ⟨⟨rfl, rfl⟩, rfl, rfl, rfl, rfl, rfl, rfl, fun h => by subst h; exact (by decide : Spout.a ∉ [Spout.c, .b])⟩

theorem witness_ClearLockoutTestsTheConditions :
    (let s := { permitted with
                sc := permitted.sc.set .a
                  { Sc.cold with lineView := .live, lockout := ⟨true, true, false, false, false⟩ } }
     Ready s ∧ (s.sc.get .a).state = .idle ∧ (s.sc.get .a).lockout ≠ .empty ∧
       s.level .a .spoutDown = .active ∧ s.level .a .vehicle = .active ∧
       s.level .a .coarseClosed = .active ∧ s.level .a .fineClosed = .active ∧
       (s.sc.get .a).lineView = .live) ∧
    (let s := { quiet with
                sc := quiet.sc.set .a { Sc.cold with lockout := ⟨false, false, true, false, false⟩ } }
     Ready s ∧ (s.sc.get .a).state = .idle ∧ (s.sc.get .a).lockout ≠ .empty ∧
       s.level .a .coarseClosed ≠ .active) ∧
    (Ready quiet ∧ (quiet.sc.get .a).state = .idle ∧ (quiet.sc.get .a).lockout = .empty) ∧
    ((loading .fine none 5).sc.get .a).state ≠ .idle :=
  ⟨⟨⟨rfl, rfl⟩, rfl, by decide, rfl, rfl, rfl, rfl, rfl⟩, ⟨⟨rfl, rfl⟩, rfl, by decide, by decide⟩,
    ⟨quiet_ready, rfl, rfl⟩, by decide⟩

/-! ### Configuration and calibration -/

theorem witness_ConfigStationStoresEveryField (g : Nat) :
    (Ready quiet ∧ quiet.fa.requests = [] ∧ ∀ sp, quiet.fa.holders.get sp = false) ∧
    (let s := { quiet with fa := { quiet.fa with g, requests := [.d] } }
     Ready s ∧ s.fa.g = g ∧ s.fa.requests ≠ []) :=
  ⟨⟨quiet_ready, rfl, fun sp => by cases sp <;> rfl⟩, ⟨rfl, rfl⟩, rfl, by simp⟩

theorem witness_ConfigLaneStoresTheParameters (st : WindowState) :
    let s := quiet.updWindow .l2 fun w => { w with state := st }
    Ready s ∧ (2 : Byte) = laneCode .l2 ∧ (s.lwu.get .l2).window.state = st ∧
      (s.lwu.get .l2).params.enable = true :=
  ⟨⟨rfl, rfl⟩, rfl, rfl, rfl⟩

theorem witness_ConfigSpoutStoresTheParameters :
    (Ready quiet ∧ (0 : Byte) = spoutCode .a ∧ (quiet.sc.get .a).state = .idle ∧ quiet.ot.queues.get .a = []) ∧
    (Ready (withOrder quiet) ∧ (withOrder quiet).ot.queues.get .a ≠ []) :=
  ⟨⟨quiet_ready, rfl, rfl, rfl⟩, ⟨rfl, rfl⟩, by decide⟩

theorem witness_CalibrationRequests (history : List Nat) :
    let s := { permitted with fc := permitted.fc.set .a { permitted.fc.a with history } }
    (Ready s ∧ (s.sc.get .a).state = .idle ∧ s.ot.queues.get .a = [] ∧ (s.fc.get .a).lineView = .live ∧
      s.level .a .coarseClosed = .active ∧ s.level .a .fineClosed = .active ∧
      (s.fc.get .a).history.length = history.length) ∧
    (Ready quiet ∧ (quiet.fc.get .a).lineView = .lost) ∧
    (let u := { quiet with fc := quiet.fc.set .a { quiet.fc.a with lineView := .live } }
     Ready u ∧ (u.sc.get .a).state = .idle ∧ (u.fc.get .a).lineView = .live ∧
       ¬ (u.level .a .coarseClosed = .active ∧ u.level .a .fineClosed = .active)) ∧
    ((loading .fine none 5).sc.get .a).state ≠ .idle :=
  ⟨⟨⟨rfl, rfl⟩, rfl, rfl, rfl, rfl, rfl, rfl⟩, ⟨quiet_ready, rfl⟩, ⟨⟨rfl, rfl⟩, rfl, rfl, by decide⟩,
    by decide⟩

theorem witness_SetOutputsSetsManualLevels : Ready quiet := quiet_ready

/-! ### The stages of a load -/

theorem witness_WaitsAndPrimeEnd :
    (let s := loading .waitFeed (some .feedWait) 5
     Running s ∧ (s.sc.get .a).active = some 0 ∧ (∀ q ∈ s.fa.requests, q = .a) ∧
       (s.sc.get .a).state = .waitFeed ∧ (s.sc.get .a).stage = some ⟨.feedWait, 4⟩) ∧
    (let s := loading .suspended (some .suspend) 5
     Running s ∧ (s.sc.get .a).active = some 0 ∧ (∀ q ∈ s.fa.requests, q = .a) ∧
       (s.sc.get .a).state = .suspended ∧ (s.sc.get .a).stage = some ⟨.suspend, 4⟩) ∧
    (∀ m,
      let s := loading .aerate (some .prime) m
      Running s ∧ (s.sc.get .a).active = some 0 ∧ s.fa.requests = [] ∧
        (s.sc.get .a).state = .aerate ∧ (s.sc.get .a).stage = some ⟨.prime, 4⟩) ∧
    reachedBy (loading .aerate (some .prime) 1000000) .a 0 = ⟨true, true⟩ ∧
    reachedBy (loading .aerate (some .prime) 999999) .a 0 = ⟨false, true⟩ ∧
    reachedBy (loading .aerate (some .prime) 700000) .a 0 = ⟨false, true⟩ ∧
    reachedBy (loading .aerate (some .prime) 699999) .a 0 = ⟨false, false⟩ :=
  ⟨⟨rfl, rfl, by decide, rfl, rfl⟩, ⟨rfl, rfl, by decide, rfl, rfl⟩, fun _ => ⟨rfl, rfl, rfl, rfl, rfl⟩,
    by decide⟩

theorem witness_SettleDecidesTheEnd (st : SpoutState) (qFilt : Nat) :
    let l := loading st (some .settle) 1000000
    let s := { l with fc := l.fc.set .a { l.fc.a with qFilt } }
    Running s ∧ s.fa.requests = [] ∧ (s.sc.get .a).state = st ∧ (s.sc.get .a).active = some 0 ∧
      (s.sc.get .a).stage = some ⟨.settle, 4⟩ ∧ (s.sc.get .a).deadline = some 9 ∧
      (s.fc.get .a).qFilt = qFilt ∧ (s.params.get .a).leak = 500 ∧ max s.now 4 < 9 ∧
      9 ≤ max ({ s with now := 9 } : State).now 4 :=
  ⟨rfl, rfl, rfl, rfl, rfl, rfl, rfl, rfl, (by decide : max 0 4 < 9),
    (by decide : 9 ≤ max 9 4)⟩

/-! ### Weighing windows -/

/-- Lane 1 with bytes collected, a line condition, a window in a state with a timer and claims, and the loss timer running. -/
def weighing (line : LineCond) (bytes : List Byte) (st : WindowState) (timer : Option LaneTimer)
    (claims : PerSide Bool) : State :=
  { quiet with
    lwu :=
      quiet.lwu.set .l1
        { Lwu.cold .default with
          framing := .collect bytes 5, line, lossTimer := some 7, stability := 9
          window := { Window.cold with state := st, timer, claims } } }

theorem witness_WeighbridgeLineFindsFrames :
    (Running quiet ∧ GrantsSettled quiet ∧ (quiet.lwu.get .l1).framing = .hunt ∧
      0xC0 ≤ (0xC0 : Byte).toNat ∧ (0xDF : Byte).toNat ≤ 0xDF ∧ (0xBF : Byte).toNat < 0xC0 ∧
      0xDF < (0xE0 : Byte).toNat) ∧
    (∀ bytes,
      let s := weighing .lost bytes .closed none ⟨false, false⟩
      Running s ∧ GrantsSettled s ∧ (s.lwu.get .l1).framing = .collect bytes 5) ∧
    ([0xC0, 0, 0] : List Byte).length < 4 ∧ (0xC0 ^^^ 0 ^^^ 0 ^^^ 0 : Byte) ≠ 0xC1 :=
  ⟨⟨rfl, quiet_settled, rfl, by decide, by decide, by decide, by decide⟩,
    fun _ => ⟨rfl, settled_of_empty rfl, rfl⟩, by decide, by decide⟩

theorem witness_GoodWeighbridgeFrames (st : WindowState) :
    let s := weighing .live [0xC0, 0, 0, 1] st none ⟨false, false⟩
    Running s ∧ GrantsSettled s ∧ (s.lwu.get .l1).framing = .collect [0xC0, 0, 0, 1] 5 ∧
      (0xC0 ^^^ 0 ^^^ 0 ^^^ 1 : Byte) = 0xC1 ∧
      stableBy (s.lwu.get .l1) (bridgeReadingOf 0xC0 0 0 1) = true ∧
      stableBy (s.lwu.get .l1) (bridgeReadingOf 0xC8 0 0 1) = false ∧
      (s.lwu.get .l1).window.state = st ∧ (s.lwu.get .l1).window.claims = ⟨false, false⟩ :=
  ⟨rfl, settled_of_empty rfl, rfl, by decide, by cases st <;> decide, by cases st <;> decide, rfl, rfl⟩

/-- The same with the claim of spout A waiting, as in every TARING window. -/
theorem witness_GoodWeighbridgeFrames_claim (st : WindowState) :
    let w := weighing .live [0xC0, 0, 0, 1] st none ⟨true, false⟩
    let s := { w with sc := (loading .tare none 0).sc }
    Running s ∧ GrantsSettled s ∧ (s.lwu.get .l1).framing = .collect [0xC0, 0, 0, 1] 5 ∧
      stableBy (s.lwu.get .l1) (bridgeReadingOf 0xC0 0 0 1) = true ∧ (s.lwu.get .l1).window.state = st ∧
      (s.lwu.get .l1).window.claims = (⟨false, false⟩ : PerSide Bool).set .lower true ∧
      (∀ p, (s.lwu.get .l1).window.claims.get p = true →
        (s.sc.get (Lane.l1.spout p)).state = .tare ∧ Lane.l1.spout p ∉ s.fa.requests) ∧
      s.fa.condition ≠ .normal :=
  ⟨rfl, settled_of_empty rfl, rfl, by cases st <;> decide, rfl, rfl,
    fun p hp => by cases p <;> [exact ⟨rfl, List.not_mem_nil⟩; exact absurd hp Bool.false_ne_true],
    (by decide : FeedCond.unknown ≠ .normal)⟩

theorem witness_WeighbridgeLossIsTimed (line : LineCond) :
    let s := weighing line [] .opened none ⟨false, false⟩
    Running s ∧ (s.lwu.get .l1).lossTimer = some 7 ∧ (s.lwu.get .l1).line = line ∧
      (quiet.lwu.get .l1).lossTimer = none :=
  ⟨rfl, rfl, rfl, rfl⟩

theorem witness_TareTimerOpensWithoutATare :
    (let s := weighing .live [] .taring (some ⟨.tare, 5⟩) ⟨false, false⟩
     Running s ∧ (s.lwu.get .l1).window.timer = some ⟨.tare, 5⟩ ∧
       (s.lwu.get .l1).window.claims = ⟨false, false⟩ ∧ GrantsSettled s) ∧
    (let w := weighing .live [] .taring (some ⟨.tare, 5⟩) ⟨true, false⟩
     let s := { w with sc := (loading .tare none 0).sc }
     Running s ∧ (s.lwu.get .l1).window.timer = some ⟨.tare, 5⟩ ∧
       (s.lwu.get .l1).window.claims = (⟨false, false⟩ : PerSide Bool).set .lower true ∧
       (s.sc.get (Lane.l1.spout .lower)).state = .tare ∧ s.fa.condition ≠ .normal ∧
       Lane.l1.spout .lower ∉ s.fa.requests) :=
  ⟨⟨rfl, rfl, rfl, settled_of_empty rfl⟩, rfl, rfl, rfl, rfl, by decide, by decide⟩

/-- Both claims of the lane wait while the feed condition is NORMAL. -/
theorem witness_TareTimer_claims :
    let w := weighing .live [] .taring (some ⟨.tare, 5⟩) ⟨true, true⟩
    let s := { w with
               sc := (quiet.sc.set .a { Sc.cold with state := .tare, active := some 0 }).set .b
                 { Sc.cold with state := .tare, active := some 1 }
               fa := { w.fa with condition := .normal } }
    Running s ∧ (s.lwu.get .l1).window.timer = some ⟨.tare, 5⟩ ∧ s.fa.condition = .normal ∧
      (s.lwu.get .l1).window.claims = ⟨true, true⟩ ∧
      ∀ p, (s.lwu.get .l1).window.claims.get p = true →
        (s.sc.get (Lane.l1.spout p)).state = .tare ∧ Lane.l1.spout p ∉ s.fa.requests :=
  ⟨rfl, rfl, rfl, rfl, fun p _ => by cases p <;> exact ⟨rfl, List.not_mem_nil⟩⟩

theorem witness_GrossTimerClosesTheWindow (claims : PerSide Bool) :
    let s := weighing .live [] .weighing (some ⟨.gross, 5⟩) claims
    Running s ∧ GrantsSettled s ∧ (s.lwu.get .l1).window.timer = some ⟨.gross, 5⟩ ∧
      (s.lwu.get .l1).window.claims = claims :=
  ⟨rfl, settled_of_empty rfl, rfl, rfl⟩

/-! ### The store, resets and restarts -/

theorem witness_SavesRunInThreeParts (part : WritePart) :
    (Ready quiet ∧ quiet.cs.store = .idle) ∧
    (let s := { quiet with cs := { quiet.cs with store := .writing part quiet.items 100 } }
     Ready s ∧ s.cs.store ≠ .idle ∧ s.cs.store = .writing part quiet.items 100) :=
  ⟨⟨quiet_ready, rfl⟩, ⟨rfl, rfl⟩, by simp, rfl⟩

theorem witness_ResetsBeginAndEnd (supplyOk hold filtered raw : Bool) (held : Option ResetCause) :
    let r : Resets :=
      { held, supplyOk, supervisorHold := hold, stable := some 5
        reset := { raw, filtered, filter := some 6, assertion := some 7, seen := true }
        warm := { Terminal.released with filter := some 8, assertion := some 9 }
        strapAddress := 0, strapRate := 0 }
    let s : State := { quiet with rst := r }
    s.rst.supplyOk = supplyOk ∧ s.rst.stable = some 5 ∧ s.rst.held = held ∧ s.rst.supervisorHold = hold ∧
      s.rst.reset.filtered = filtered ∧ s.rst.reset.raw = raw ∧ s.rst.reset.filter = some 6 ∧
      s.rst.reset.assertion = some 7 ∧ s.rst.warm.filter = some 8 ∧ s.rst.warm.assertion = some 9 ∧
      (held = none → Running s) :=
  ⟨rfl, rfl, rfl, rfl, rfl, rfl, rfl, rfl, rfl, rfl, fun h => h⟩

theorem witness_ColdStartLeavesTheColdState :
    0 < Items.default.station.debounce ∧
      (let m : Items := { Items.default with station := { Items.default.station with debounce := 0 } }
       (⟨m, m.check⟩ : Image).valid = true ∧ m.station.debounce = 0) :=
  ⟨by decide, by simp [Image.valid]⟩

theorem witness_WarmRestartEndsEveryLoad (full : List Event) (w : WindowState) :
    Ready quiet ∧ OrdersPlaced coarseA ∧ (coarseA.sc.get .a).state ≠ .idle ∧
      (coarseA.sc.get .b).state = .idle ∧ coarseA.rq.events.length < 32 ∧
      (coarseA.ot.slot 0).state = .active ∧ (coarseA.ot.slot 0).spout = some .a ∧
      (coarseA.ot.slot 1).state ≠ .active ∧
      ({ coarseA with rq := { coarseA.rq with events := full } } : State).rq.events = full ∧
      ((coarseA.updWindow .l1 fun x => { x with state := w }).lwu.get .l1).window.state = w :=
  ⟨quiet_ready, coarseA_placed, by decide, rfl, by decide, by decide, by decide, by decide, rfl, rfl⟩

end Sys2Proof.Tests
end

