-- ==== Sys2Proof/Proofs/LearningStep.lean ====
section
/-! The magnitude and the sign of a quotient rounded half away from zero, and of the learning step (R115). -/

namespace Sys2Proof.Proofs

open Sys2Proof.Machine

/-- At the numerator 0 the sign is 0, and so is the magnitude: half the denominator rounds down. -/
theorem natAbs_roundAway (num : Int) {den : Nat} (hden : 0 < den) :
    (roundAway num den).natAbs = (num.natAbs + den / 2) / den := by
  rcases eq_or_ne num 0 with rfl | hnum
  · have half_rounds_down : den / 2 / den = 0 := Nat.div_eq_of_lt (Nat.div_lt_self hden one_lt_two)
    simp [roundAway, half_rounds_down]
  · simp only [roundAway, Int.natAbs_mul, Int.natAbs_sign_of_ne_zero hnum, Int.natAbs_natCast, one_mul]

theorem natAbs_learningStep (e : Int) (gp : Nat) :
    (learningStep e gp).natAbs = (e.natAbs * gp + 4) / 8 := by
  simp only [learningStep, natAbs_roundAway _ (show 0 < 8 by decide), Int.natAbs_mul, Int.natAbs_natCast]

/-- The model takes the sign of e × Gp and R115 the sign of e; they differ at gain 0 alone, where the magnitude is 0. -/
theorem learningStep_eq_sign_mul (e : Int) (gp : Nat) :
    learningStep e gp = e.sign * (((e.natAbs * gp + 4) / 8 : Nat) : Int) := by
  rcases Nat.eq_zero_or_pos gp with rfl | hgp
  · simp [learningStep, roundAway]
  · have sign_eq : (e * gp).sign = e.sign := by
      rw [Int.sign_mul, Int.sign_eq_one_of_pos (Int.natCast_pos.mpr hgp), mul_one]
    simp only [learningStep, roundAway, sign_eq, Int.natAbs_mul, Int.natAbs_natCast]

@[simp] theorem learningStep_gain_zero (e : Int) : learningStep e 0 = 0 := by
  simp [learningStep_eq_sign_mul]

@[simp] theorem learningStep_error_zero (gp : Nat) : learningStep 0 gp = 0 := by
  simp [learningStep_eq_sign_mul]

@[simp] theorem learningStep_gain_eight (e : Int) : learningStep e 8 = e := by
  have whole : (e.natAbs * 8 + 4) / 8 = e.natAbs := by omega
  rw [learningStep_eq_sign_mul, whole, Int.sign_mul_natAbs]

theorem natAbs_learningStep_le (e : Int) {gp : Nat} (hgp : gp ≤ 8) :
    (learningStep e gp).natAbs ≤ e.natAbs := by
  have product_le : e.natAbs * gp ≤ e.natAbs * 8 := Nat.mul_le_mul_left _ hgp
  rw [natAbs_learningStep]
  omega

/-- Settles O25: sign and magnitude of the step, and its bound by the error, each a lemma above. -/
theorem learningStepIsRoundedAway : Obligations.LearningStepIsRoundedAway := by
  intro e gp
  refine ⟨learningStep_eq_sign_mul e gp, learningStep_gain_zero e, learningStep_gain_eight e,
    learningStep_error_zero gp, natAbs_learningStep_le e, fun he hgp => ?_⟩
  have product_le : e.natAbs * gp ≤ 500000 * 8 := Nat.mul_le_mul he hgp
  have step_le : (learningStep e gp).natAbs ≤ 500000 := (natAbs_learningStep_le e hgp).trans he
  exact ⟨product_le, by omega, by omega⟩

end Sys2Proof.Proofs
end

/-! The Station Link's tests of a complete frame (R177 to R179) and READ-EVENTS at the report queue (R189). -/

namespace Sys2Proof.Proofs

open Sys2Proof.Machine Sys2Proof.Safety Sys2Proof.Laws

/-! ## Requests by kind and body (R179, R191) -/

theorem bodySize_eq_none_iff (kind : Byte) : bodySize kind = none ↔ kind.toNat < 0x01 ∨ 0x13 < kind.toNat := by
  unfold bodySize
  split <;> simp only [reduceCtorEq, false_iff, true_iff, imp_false] at * <;> omega

/-- A kind with a size has its top bit clear: it is no reply's kind. -/
theorem msb_of_bodySize {kind : Byte} {n : Nat} (h : bodySize kind = some n) : kind.msb = false := by
  have known : ¬ (kind.toNat < 0x01 ∨ 0x13 < kind.toNat) := by
    rw [← bodySize_eq_none_iff, h]
    exact Option.some_ne_none n
  simp only [BitVec.msb_eq_decide, decide_eq_false_iff_not]
  omega

theorem bodySize_of_decodeRequest {kind : Byte} {body : List Byte} {i : Instr}
    (h : decodeRequest kind body = some i) : bodySize kind = some body.length := by
  unfold decodeRequest at h
  split at h
  case isTrue size => exact size
  case isFalse => cases h

theorem decodeRequest_of_length_ne {kind : Byte} {body : List Byte} {n : Nat} (hn : bodySize kind = some n)
    (hlen : body.length ≠ n) : decodeRequest kind body = none := by
  refine Option.eq_none_iff_forall_ne_some.2 fun i hi => hlen ?_
  exact Option.some.inj ((bodySize_of_decodeRequest hi).symm.trans hn)

/-- Each request command is the taking of a request under the kind that decodes to it (R179): one case for each kind, and the
last for a kind that is none of them. -/
theorem exec_of_decodeRequest {kind : Byte} {body : List Byte} {i : Instr} (h : decodeRequest kind body = some i)
    (s : State) : exec i s = .next (s.request kind (runRequest i)) := by
  have spelled : BitVec.ofNat 8 kind.toNat = kind := BitVec.ofNat_toNat ..
  unfold decodeRequest at h
  split at h
  case isFalse => cases h
  case isTrue =>
    split at h
    case h_20 => cases h
    all_goals
      rename_i code
      rw [code] at spelled
      subst spelled
      cases h
      rfl

theorem request_of_idle {s : State} (hrun : Running s) (htx : s.sl.tx = .idle) (kind : Byte)
    (f : State → State × Reply) : s.request kind f = s.take kind f := by
  rw [State.request, whenRunning_of_running hrun]
  simp only [htx]

/-! ## The tests of a complete frame (R178) -/

/-- The bytes of a frame that its CRC covers: address, kind, length and body (R176). -/
def coveredBytes (a kind : Byte) (body : List Byte) : List Byte := [a, kind, byteOf body.length] ++ body

theorem length_coveredBytes (a kind : Byte) (body : List Byte) :
    (coveredBytes a kind body).length = 3 + body.length := by
  simp [coveredBytes]; omega

/-- A frame but for its start byte: the covered bytes and the CRC that was received with them (R176). -/
def frameBytes (a kind : Byte) (body : List Byte) (crc : BitVec 16) : List Byte :=
  coveredBytes a kind body ++ wordBytes crc

section
variable (a kind : Byte) (body : List Byte) (crc : BitVec 16)

theorem length_frameBytes : (frameBytes a kind body crc).length = 3 + body.length + 2 := by
  simp only [frameBytes, List.length_append, length_coveredBytes]; rfl

@[simp] theorem byteAt_zero_frameBytes : byteAt 0 (frameBytes a kind body crc) = a := rfl

@[simp] theorem byteAt_one_frameBytes : byteAt 1 (frameBytes a kind body crc) = kind := rfl

theorem toNat_byteAt_two_frameBytes (hbody : body.length ≤ 120) :
    (byteAt 2 (frameBytes a kind body crc)).toNat = body.length := by
  change (byteOf body.length).toNat = body.length
  simp only [byteOf, BitVec.toNat_ofNat]
  omega

@[simp] theorem take_frameBytes :
    (frameBytes a kind body crc).take ((frameBytes a kind body crc).length - 2) = coveredBytes a kind body := by
  rw [length_frameBytes, Nat.add_sub_cancel, ← length_coveredBytes a kind, frameBytes, List.take_left]

@[simp] theorem drop_coveredBytes : (coveredBytes a kind body).drop 3 = body := rfl

@[simp] theorem wordAt_append_wordBytes (bytes : List Byte) : wordAt bytes.length (bytes ++ wordBytes crc) = crc := by
  have halves : crc.extractLsb' 8 8 ++ crc.extractLsb' 0 8 = crc :=
    (BitVec.extractLsb'_append_extractLsb'_eq_extractLsb' (len₁ := 8) (by decide)).trans BitVec.extractLsb'_eq_self
  simpa [wordAt, byteAt, wordBytes] using halves

@[simp] theorem wordAt_frameBytes :
    wordAt ((frameBytes a kind body crc).length - 2) (frameBytes a kind body crc) = crc := by
  rw [length_frameBytes, Nat.add_sub_cancel, ← length_coveredBytes a kind, frameBytes, wordAt_append_wordBytes]

end

section
variable {address : Nat} {a kind : Byte} {body : List Byte} {crc : BitVec 16}

theorem testFrame_of_crc_ne (hcrc : crc16 (coveredBytes a kind body) ≠ crc) :
    testFrame address (frameBytes a kind body crc) = .badCrc := by
  simp [testFrame, hcrc]

theorem testFrame_of_address_ne (hcrc : crc16 (coveredBytes a kind body) = crc) (ha : a.toNat ≠ address) :
    testFrame address (frameBytes a kind body crc) = .ignored := by
  simp [testFrame, hcrc, ha]

theorem testFrame_of_reply_kind (hcrc : crc16 (coveredBytes a kind body) = crc) (ha : a.toNat = address)
    (hkind : kind.msb = true) : testFrame address (frameBytes a kind body crc) = .ignored := by
  simp [testFrame, hcrc, ha, hkind]

theorem testFrame_of_unknown_kind (hcrc : crc16 (coveredBytes a kind body) = crc) (ha : a.toNat = address)
    (hkind : kind.msb = false) (hsize : bodySize kind = none) :
    testFrame address (frameBytes a kind body crc) = .answer kind ⟨.unknownKind, []⟩ := by
  simp [testFrame, hcrc, ha, hkind, hsize, Reply.refuse]

theorem testFrame_of_length_ne (hcrc : crc16 (coveredBytes a kind body) = crc) (ha : a.toNat = address) {n : Nat}
    (hsize : bodySize kind = some n) (hlen : body.length ≠ n) :
    testFrame address (frameBytes a kind body crc) = .answer kind ⟨.badLength, [byteOf n]⟩ := by
  simp [testFrame, hcrc, ha, msb_of_bodySize hsize, hsize, decodeRequest_of_length_ne hsize hlen, Reply.badLength]

theorem testFrame_of_decodeRequest (hcrc : crc16 (coveredBytes a kind body) = crc) (ha : a.toNat = address)
    {i : Instr} (hi : decodeRequest kind body = some i) :
    testFrame address (frameBytes a kind body crc) = .dispatch kind i := by
  have size := bodySize_of_decodeRequest hi
  simp [testFrame, hcrc, ha, msb_of_bodySize size, size, hi]

end

/-! ## What the link does with the verdict (R178, R179) -/

/-- The link has returned to LISTEN. -/
def listening (s : State) : State := { s with sl := { s.sl with rx := .listen } }

section
variable {s : State} {bytes : List Byte}

theorem completeFrame_of_badCrc (h : testFrame s.sl.address bytes = .badCrc) :
    s.completeFrame bytes =
      { listening s with sl := { (listening s).sl with crcErr := min 65535 (s.sl.crcErr + 1) } } := by
  simp only [State.completeFrame, State.updSl, h]; rfl

theorem completeFrame_of_ignored (h : testFrame s.sl.address bytes = .ignored) :
    s.completeFrame bytes = listening s := by
  simp only [State.completeFrame, State.updSl, h]; rfl

theorem completeFrame_of_answer {kind : Byte} {r : Reply} (h : testFrame s.sl.address bytes = .answer kind r) :
    s.completeFrame bytes = answeredOnly s kind r := by
  simp only [State.completeFrame, State.updSl, h]; rfl

theorem completeFrame_of_dispatch {kind : Byte} {i : Instr}
    (h : testFrame s.sl.address bytes = .dispatch kind i) :
    s.completeFrame bytes = (listening s).take kind (runRequest i) := by
  simp only [State.completeFrame, State.updSl, h]; rfl

end

/-- The byte that gives a frame the size its length byte announces completes it (R177). -/
theorem exec_stationByteArrival_last {s : State} {a kind : Byte} {body : List Byte} {crc : BitVec 16} {gap : Nat}
    (hrun : Running s) (htx : s.sl.tx = .idle) (hbody : body.length ≤ 120)
    (hrx : s.sl.rx = .frame (coveredBytes a kind body ++ [crc.extractLsb' 8 8]) gap) :
    exec (.stationByteArrival (crc.extractLsb' 0 8)) s = .next (s.completeFrame (frameBytes a kind body crc)) := by
  have whole : coveredBytes a kind body ++ [crc.extractLsb' 8 8] ++ [crc.extractLsb' 0 8] =
      frameBytes a kind body crc := by simp [frameBytes, wordBytes]
  have arrives : s.stationByte (crc.extractLsb' 0 8) = s.frameByte (frameBytes a kind body crc) := by
    simp only [State.stationByte, htx, hrx, whole]
  have completes : s.frameByte (frameBytes a kind body crc) = s.completeFrame (frameBytes a kind body crc) := by
    simp only [State.frameByte, length_frameBytes, toNat_byteAt_two_frameBytes a kind body crc hbody,
      Config.bodyMax]
    rw [if_neg (by omega), if_neg (by omega), if_neg (by omega)]
  change Host.Outcome.next (s.whenRunning fun s => s.stationByte (crc.extractLsb' 0 8)) = _
  rw [whenRunning_of_running hrun, arrives, completes]

/-- Settles O7: the last byte completes the frame, each clause fixes the verdict of its tests, and the verdict what the link
does. -/
theorem completeFramesAreTested : Obligations.CompleteFramesAreTested := by
  intro s a kind body crc gap covered heard outcome hrun htx hbody hrx
  have completed : outcome = .next (s.completeFrame (frameBytes a kind body crc)) :=
    exec_stationByteArrival_last hrun htx hbody hrx
  rw [completed]
  refine ⟨fun hcrc => ?badCrc, fun hcrc ha => ?otherAddress, fun hcrc ha hkind => ?replyKind,
    fun hcrc ha hkind hunknown => ?unknownKind, fun hcrc ha n hsize hlen => ?badLength,
    fun hcrc ha i hi => ?dispatched⟩
  case badCrc => exact congrArg _ (completeFrame_of_badCrc (testFrame_of_crc_ne hcrc))
  case otherAddress => exact congrArg _ (completeFrame_of_ignored (testFrame_of_address_ne hcrc ha))
  case replyKind =>
    have msb : kind.msb = true := by simpa [BitVec.msb_eq_decide] using hkind
    exact congrArg _ (completeFrame_of_ignored (testFrame_of_reply_kind hcrc ha msb))
  case unknownKind =>
    have msb : kind.msb = false := by simpa [BitVec.msb_eq_decide] using hkind
    have size := (bodySize_eq_none_iff kind).2 hunknown
    exact congrArg _ (completeFrame_of_answer (testFrame_of_unknown_kind hcrc ha msb size))
  case badLength => exact congrArg _ (completeFrame_of_answer (testFrame_of_length_ne hcrc ha hsize hlen))
  case dispatched =>
    have idle : heard.sl.tx = .idle := htx
    rw [exec_of_decodeRequest hi, request_of_idle (s := heard) hrun idle,
      completeFrame_of_dispatch (testFrame_of_decodeRequest hcrc ha hi)]
    rfl

/-! ## READ-EVENTS (R189) -/

@[simp] theorem length_beBytes (n v : Nat) : (beBytes n v).length = n := by
  induction n with
  | zero => rfl
  | succ n ih => simp [beBytes, ih]

theorem length_padTo {n : Nat} {bytes : List Byte} (h : bytes.length ≤ n) : (padTo n bytes).length = n := by
  simp [padTo]; omega

/-- The body of every event kind fits in the 8 bytes that a record has for it (R191). -/
theorem length_eventBody_bytes_le (b : EventBody) : b.bytes.length ≤ 8 := by
  cases b <;> simp [EventBody.bytes, ReasonSet.bytes]

theorem length_event_bytes (e : Event) : e.bytes.length = 14 := by
  simp [Event.bytes, length_padTo (length_eventBody_bytes_le e.body)]

theorem readEventsRequest_of_gt {n : Byte} (s : State) (hn : 8 < n.toNat) :
    readEventsRequest n s = (s, ⟨.badField, [1]⟩) :=
  if_pos hn

/-- The oldest k events are taken, and the model's count of them, which n bounds, is that k. -/
theorem readEventsRequest_of_le {n : Byte} (s : State) (hn : n.toNat ≤ 8) :
    let k := min n.toNat s.rq.events.length
    readEventsRequest n s =
      (s.updRq fun q => { q with events := q.events.drop k, lost := 0 },
        okReply
          ([byteOf k, byteOf (s.rq.events.length - k), byteOf s.rq.lost] ++
            ((s.rq.events.take k).map Event.bytes).flatten)) := by
  intro k
  have taken : s.rq.events.take n.toNat = s.rq.events.take k := List.take_eq_take_min ..
  have left : s.rq.events.drop n.toNat = s.rq.events.drop k := by
    simp only [k, List.drop_eq_drop_iff]; omega
  have in_range : ¬ Config.readEventsMax < n.toNat := Nat.not_lt.2 hn
  have taken_length : (s.rq.events.take k).length = k := List.length_take_of_le (Nat.min_le_right ..)
  simp only [readEventsRequest, if_neg in_range, taken, left, taken_length, List.length_drop, List.flatMap_def]
  rfl

/-- Settles O37: the request's step, by whether n is in its range, and the length of a record. -/
theorem readEventsRemovesTheOldest : Obligations.ReadEventsRemovesTheOldest := by
  intro s n hready k
  refine ⟨fun hn => ?refused, fun hn => ⟨?removed, fun e _ => length_event_bytes e⟩⟩
  case refused =>
    exact congrArg Host.Outcome.next
      (request_unchanged hready 0x0E _ _ (readEventsRequest_of_gt s hn))
  case removed =>
    have step := readEventsRequest_of_le s hn
    have taken := request_of_ready hready 0x0E (readEventsRequest n) (by rw [step]; rfl) (by rw [step]; rfl)
    rw [step] at taken
    exact congrArg Host.Outcome.next taken

end Sys2Proof.Proofs

/-! What every step keeps, operation by operation: the properties that speak of one block's items. -/

namespace Sys2Proof.Proofs

open Sys2Proof.Machine Sys2Proof.Safety Sys2Proof.Laws

/-! ## The invariants as the blocks see them -/

/-- The terminal of a gate (R49). -/
def gateTerminal (s : State) (sp : Spout) : Gate → Bool
  | .coarse => s.iob.coarseOut.get sp
  | .fine => s.iob.fineOut.get sp

/-- The travel timer of a gate runs exactly while the gate travels (R51). -/
def GateTimed (v : GateSup) : Prop := v.timer.isSome = true ↔ v.state = .opening ∨ v.state = .closing

/-- The clauses of `GatesSupervised` in a part that holds no reset. -/
def GatesAgree (s : State) : Prop :=
  ∀ sp g, GateTimed (s.gate sp g) ∧ gateTerminal s sp g = commandedOpen (s.gate sp g).state

theorem gatesSupervised_iff (s : State) :
    GatesSupervised s ↔ (∀ sp g, GateTimed (s.gate sp g)) ∧ (Running s → GatesAgree s) := by
  have terminal : ∀ sp g,
      (match g with | .coarse => s.iob.coarseOut.get sp | .fine => s.iob.fineOut.get sp) = gateTerminal s sp g := by
    intro sp g; cases g <;> rfl
  simp only [GatesSupervised, GatesAgree, GateTimed]
  constructor
  · exact fun h => ⟨fun sp g => (h sp g).1,
      fun hr sp g => ⟨(h sp g).1, (terminal sp g).symm.trans ((h sp g).2 hr)⟩⟩
  · exact fun h sp g => ⟨h.1 sp g, fun hr => (terminal sp g).trans (h.2 hr sp g).2⟩

/-- The clauses of `OutputsExact` in a part that holds no reset. -/
def OutputsFollow (s : State) : Prop :=
  (∀ o ∈ s.iob.outputs, o.terminal = (s.iob.views.holds o.cfg o.manual != o.cfg.invert)) ∧
    (s.iob.holdAck = true ↔ s.fa.feedHoldView = .active ∧ ∀ sp, s.fa.holders.get sp = false) ∧
    (s.iob.attention = true ↔ ∃ e ∈ s.rq.events, s.rq.mask.enables e.body = true)

/-- `ViewsExact` with FEED_HELD as given: inside one command the feed condition runs ahead of its view. -/
def ViewsFollow (held : Bool) (s : State) : Prop :=
  (∀ sp,
    s.iob.views.active.get sp = (s.sc.get sp).state.isActive ∧
    s.iob.views.flowing.get sp = (s.sc.get sp).state.isFlowing ∧
    (s.iob.views.lockout.get sp = true ↔ (s.sc.get sp).lockout ≠ .empty) ∧
    s.iob.views.result.get sp = (s.ot.lastEnded.get sp).isSome) ∧
  (∀ l,
    s.iob.views.weighing.get l = true ↔
      (s.lwu.get l).window.state = .taring ∨ (s.lwu.get l).window.state = .weighing) ∧
  s.iob.views.feedHeld = held

theorem viewsExact_iff (s : State) : ViewsExact s ↔ ViewsFollow (decide (s.fa.condition ≠ .normal)) s := by
  unfold ViewsExact ViewsFollow
  cases s.iob.views.feedHeld <;> simp

/-- The flow items of one spout in their ranges (R23, R25, R26, R32). -/
def FlowIn (w : Nat) (f : Fc) : Prop :=
  f.window.length ≤ w ∧ (∀ q ∈ f.window, q ≤ 200000) ∧ f.qFilt = roundedMean f.window ∧ f.residue < 1000 ∧
    f.history.length ≤ 16

/-- The framing and the restore run of one sensor line (section 1.3). -/
def SensorFramed (r : Slr) : Prop :=
  FramingIn 0xA0 0xBF 6 r.framing ∧ r.goodRun ≤ 2 ∧ r.hold.length = 2 * r.goodRun ∧
    (r.line = .live → r.goodRun = 0) ∧ (r.line = .lost → r.subRun = 0)

/-- The framing and the restore run of one weighbridge line (sections 9.1 and 9.2). -/
def BridgeFramed (u : Lwu) : Prop :=
  FramingIn 0xC0 0xDF 5 u.framing ∧ u.restoreRun ≤ 2 ∧ (u.line = .live → u.restoreRun = 0)

/-! ## What one operation of a block keeps -/

/-- An operation leaves the clock, the link, the resets and the waiting commands alone and keeps every property that speaks of
one block's items. By default it does not touch what a property speaks of. -/
structure Keeps (s t : State) : Prop where
  now : t.now = s.now := by rfl
  rst : t.rst = s.rst := by rfl
  sl : t.sl = s.sl := by rfl
  pending : t.pending = s.pending := by rfl
  queue : QueueBounded s → QueueBounded t := by exact id
  limit : GrantLimit s → GrantLimit t := by exact id
  flow : FlowRanges s → FlowRanges t := by exact id
  calibration : CalibrationRanges s → CalibrationRanges t := by exact id
  lines : LinesFramed s → LinesFramed t := by exact id
  gates : GatesAgree s → GatesAgree t := by exact id
  outputs : OutputsFollow s → OutputsFollow t := by exact id

theorem Keeps.trans {s t u : State} (h : Keeps s t) (k : Keeps t u) : Keeps s u where
  now := k.now.trans h.now
  rst := k.rst.trans h.rst
  sl := k.sl.trans h.sl
  pending := k.pending.trans h.pending
  queue := k.queue ∘ h.queue
  limit := k.limit ∘ h.limit
  flow := k.flow ∘ h.flow
  calibration := k.calibration ∘ h.calibration
  lines := k.lines ∘ h.lines
  gates := k.gates ∘ h.gates
  outputs := k.outputs ∘ h.outputs

/-- An operation that keeps the views of the source conditions too, whatever FEED_HELD stands for. -/
structure Tells (s t : State) : Prop extends Keeps s t where
  views : ∀ held, ViewsFollow held s → ViewsFollow held t := by exact fun _ => id

theorem Tells.refl (s : State) : Tells s s := {}

theorem Tells.trans {s t u : State} (h : Tells s t) (k : Tells t u) : Tells s u where
  toKeeps := h.toKeeps.trans k.toKeeps
  views held := k.views held ∘ h.views held

theorem Tells.ite {s t u : State} {p : Prop} [Decidable p] (h : p → Tells s t) (k : ¬ p → Tells s u) :
    Tells s (if p then t else u) := by
  split
  · exact h ‹_›
  · exact k ‹_›

/-! ## One item of a table changed -/

theorem PerSpout.forall_get_set {α : Type} {p : Spout → α → Prop} {t : PerSpout α} {sp : Spout} {v : α}
    (h : ∀ q, p q (t.get q)) (hv : p sp v) (q : Spout) : p q ((t.set sp v).get q) := by
  by_cases hq : q = sp
  · subst hq
    simpa using hv
  · simpa [PerSpout.get_set, hq] using h q

theorem PerLane.forall_get_set {α : Type} {p : Lane → α → Prop} {t : PerLane α} {l : Lane} {v : α}
    (h : ∀ m, p m (t.get m)) (hv : p l v) (m : Lane) : p m ((t.set l v).get m) := by
  by_cases hm : m = l
  · subst hm
    simpa using hv
  · simpa [PerLane.get_set, hm] using h m

section
variable (s : State)

/-! ### The report queue (R187, R188) -/

theorem attention_iff (q : Rq) : q.attention = true ↔ ∃ e ∈ q.events, q.mask.enables e.body = true := by
  simp [Rq.attention]

theorem tells_updRq {f : Rq → Rq} (h : QueueBounded s → (f s.rq).events.length ≤ 32 ∧ (f s.rq).lost ≤ 255) :
    Tells s (s.updRq f) where
  queue := h
  outputs := fun ⟨hout, hack, _⟩ => ⟨hout, hack, attention_iff (f s.rq)⟩

theorem tells_pushEvent (src : EventSource) (b : EventBody) : Tells s (s.pushEvent src b) :=
  tells_updRq s fun h => ⟨queued_length_le src b h.1, queued_lost_le src b h.2⟩

/-! ### Items that no view and no output follows -/

theorem tells_updSlr {sp : Spout} {f : Slr → Slr}
    (h : SensorFramed (s.slr.get sp) → SensorFramed (f (s.slr.get sp))) : Tells s (s.updSlr sp f) where
  lines := fun ⟨hs, hb⟩ => ⟨PerSpout.forall_get_set (p := fun _ => SensorFramed) hs (h (hs sp)), hb⟩

theorem tells_updFc {sp : Spout} {f : Fc → Fc}
    (hflow : FlowIn (s.params.get sp).w (s.fc.get sp) → FlowIn (s.params.get sp).w (f (s.fc.get sp)))
    (hcal : CalibrationIn (s.params.get sp).lmax (s.fc.get sp).span (s.fc.get sp).corr →
      CalibrationIn (s.params.get sp).lmax (f (s.fc.get sp)).span (f (s.fc.get sp)).corr) :
    Tells s (s.updFc sp f) where
  flow := fun h => PerSpout.forall_get_set (p := fun q => FlowIn (s.params.get q).w) h (hflow (h sp))
  calibration := fun ⟨hlive, hstored⟩ =>
    ⟨PerSpout.forall_get_set (p := fun q (f : Fc) => CalibrationIn (s.params.get q).lmax f.span f.corr) hlive
      (hcal (hlive sp)), hstored⟩

theorem tells_updCs {f : Cs → Cs}
    (h : CalibrationRanges s → ItemsCalibrated (f s.cs).image.items ∧
      ∀ part copy limit, (f s.cs).store = .writing part copy limit → ItemsCalibrated copy) :
    Tells s (s.updCs f) where
  calibration := fun hs => ⟨hs.1, h hs⟩

theorem tells_updOt {f : Ot → Ot} (h : (f s.ot).lastEnded = s.ot.lastEnded) : Tells s (s.updOt f) where
  views := fun held hv => by
    refine ⟨fun sp => ?_, hv.2⟩
    simpa [h] using hv.1 sp

theorem tells_updSlot (i : Fin 16) (f : SlotRec → SlotRec) : Tells s (s.updSlot i f) :=
  tells_updOt s rfl

/-- The Spout Controller's items that no view follows. -/
theorem tells_updSc {sp : Spout} {f : Sc → Sc} (hstate : (f (s.sc.get sp)).state = (s.sc.get sp).state := by rfl)
    (hlockout : (f (s.sc.get sp)).lockout = (s.sc.get sp).lockout := by rfl) : Tells s (s.updSc sp f) where
  views := fun held ⟨hs, hrest⟩ => by
    refine ⟨fun q => ?_, hrest⟩
    by_cases hq : q = sp
    · subst hq
      simpa [hstate, hlockout] using hs q
    · simpa [PerSpout.get_set, hq] using hs q

theorem tells_setStage (sp : Spout) (t : Option StageTimer) : Tells s (s.setStage sp t) := tells_updSc s

theorem tells_updLwu {l : Lane} {f : Lwu → Lwu}
    (hwindow : (f (s.lwu.get l)).window.state = (s.lwu.get l).window.state := by rfl)
    (hframed : BridgeFramed (s.lwu.get l) → BridgeFramed (f (s.lwu.get l)) := by exact id) :
    Tells s (s.updLwu l f) where
  lines := fun ⟨hs, hb⟩ => ⟨hs, PerLane.forall_get_set (p := fun _ => BridgeFramed) hb (hframed (hb l))⟩
  views := fun held ⟨hs, hl, hf⟩ =>
    ⟨hs, PerLane.forall_get_set
      (p := fun m (u : Lwu) => s.iob.views.weighing.get m = true ↔ u.window.state = .taring ∨ u.window.state = .weighing)
      hl (by rw [hwindow]; exact hl l), hf⟩

theorem tells_updWindow {l : Lane} {f : Window → Window}
    (hwindow : (f (s.lwu.get l).window).state = (s.lwu.get l).window.state := by rfl) :
    Tells s (s.updWindow l f) :=
  tells_updLwu s hwindow

theorem tells_setInput (i : InputId) (v : Input) : Tells s (s.setInput i v) := by
  cases i <;> exact {}

/-! ### The Feed Arbiter (R141, R150) -/

theorem holdAck_iff (f : Fa) :
    f.holdAck = true ↔ f.feedHoldView = .active ∧ ∀ sp, f.holders.get sp = false := by
  simp only [Fa.holdAck, holderCount_eq, Bool.and_eq_true, decide_eq_true_iff, List.length_eq_zero_iff,
    List.filter_eq_nil_iff, Bool.not_eq_true, and_congr_right_iff]
  exact fun _ => ⟨fun h sp => h sp (by cases sp <;> decide), fun h sp _ => h sp⟩

theorem tells_updFa {f : Fa → Fa} (h : GrantLimit s → (f s.fa).holderCount ≤ (f s.fa).g) :
    Tells s (s.updFa f) where
  limit := fun hs => by
    have := h hs
    rwa [holderCount_eq] at this
  outputs := fun ⟨hout, _, hatt⟩ => ⟨hout, holdAck_iff (f s.fa), hatt⟩

theorem holderCount_le_of_grantLimit (h : GrantLimit s) : s.fa.holderCount ≤ s.fa.g := by
  rwa [holderCount_eq]

/-- Handing a grant back never leaves more holders. -/
theorem holderCount_set_false_le (f : Fa) (sp : Spout) :
    { f with holders := f.holders.set sp false }.holderCount ≤ f.holderCount := by
  simp only [Fa.holderCount, PerSpout.toList]
  cases sp <;> simp [PerSpout.set, List.filter] <;> (repeat' split) <;> simp

theorem holderCount_set_true_le (f : Fa) (sp : Spout) :
    { f with holders := f.holders.set sp true }.holderCount ≤ f.holderCount + 1 := by
  simp only [Fa.holderCount, PerSpout.toList]
  cases sp <;> simp [PerSpout.set, List.filter] <;> (repeat' split) <;> simp

theorem tells_requestFeed (sp : Spout) : Tells s (s.requestFeed sp) :=
  tells_updFa s fun h => by
    have := holderCount_le_of_grantLimit s h
    split <;> exact this

theorem tells_withdrawFeed (sp : Spout) : Tells s (s.withdrawFeed sp) :=
  tells_updFa s fun h => holderCount_le_of_grantLimit s h

theorem tells_releaseGrant (sp : Spout) : Tells s (s.releaseGrant sp) :=
  (tells_updSc s).trans <| tells_updFa _ fun h =>
    (holderCount_set_false_le s.fa sp).trans (holderCount_le_of_grantLimit s h)

/-! ### Views and configurable outputs (R55, R56) -/

/-- After a recomputation every output's terminal is its source condition with the invert flag. -/
theorem terminal_of_mem_recompute {b : Iob} {o : ConfigOut} (h : o ∈ b.recompute.outputs) :
    o.terminal = (b.views.holds o.cfg o.manual != o.cfg.invert) := by
  simp only [Iob.recompute, Iob.outputs, PerSpout.map, PerAux.map, PerSpout.toList, PerAux.toList,
    List.cons_append, List.nil_append, List.mem_cons, List.not_mem_nil, or_false] at h
  rcases h with rfl | rfl | rfl | rfl | rfl | rfl | rfl | rfl <;> rfl

/-- A notice keeps all but the views, and leaves the outputs as the new views have them. -/
theorem keeps_notice (f : SourceViews → SourceViews) : Keeps s (s.notice f) where
  outputs := fun ⟨_, hack, hatt⟩ => ⟨fun _ => terminal_of_mem_recompute, hack, hatt⟩

/-- The Spout Controller's items, whatever becomes of the views of them. -/
theorem keeps_updSc (sp : Spout) (f : Sc → Sc) : Keeps s (s.updSc sp f) := {}

theorem tells_updTracking {sp : Spout} {f : Fc → Fc}
    (hflow : FlowIn (s.params.get sp).w (s.fc.get sp) → FlowIn (s.params.get sp).w (f (s.fc.get sp)))
    (hcal : CalibrationIn (s.params.get sp).lmax (s.fc.get sp).span (s.fc.get sp).corr →
      CalibrationIn (s.params.get sp).lmax (f (s.fc.get sp)).span (f (s.fc.get sp)).corr) :
    Tells s (s.updTracking sp f) :=
  tells_updFc s hflow hcal

/-- A change of spout state tells the two views of it (R56, R83). -/
theorem tells_setSpoutState (sp : Spout) (st : SpoutState) : Tells s (s.setSpoutState sp st) where
  toKeeps := ((keeps_updSc s sp _).trans (keeps_notice _ _)).trans (tells_updTracking _ id id).toKeeps
  views := fun held ⟨hs, hl, hf⟩ => by
    refine ⟨fun q => ?_, hl, hf⟩
    have hq := hs q
    by_cases h : q = sp
    · subst h
      simpa [setSpoutState_eq, enters, Iob.recompute] using hq.2.2
    · simpa [setSpoutState_eq, enters, Iob.recompute, PerSpout.get_set, h] using hq

@[simp] theorem lockoutSet_add_ne_empty (t : LockoutSet) (r : LockoutReason) : t.add r ≠ .empty := by
  cases r <;> simp [LockoutSet.add, LockoutSet.empty]

/-- A reason that enters the lockout set tells the view of it (R136). -/
theorem tells_enterLockout (sp : Spout) (r : LockoutReason) : Tells s (s.enterLockout sp r) := by
  unfold State.enterLockout
  refine Tells.ite (fun _ => .refl s) fun _ => ⟨?_, fun held ⟨hs, hl, hf⟩ => ⟨fun q => ?_, hl, hf⟩⟩
  · exact ((keeps_updSc s sp _).trans (tells_pushEvent _ _ _).toKeeps).trans (keeps_notice _ _)
  · have hq := hs q
    by_cases h : q = sp
    · subst h
      simpa [Iob.recompute] using ⟨hq.1, hq.2.1, hq.2.2.2⟩
    · simpa [Iob.recompute, PerSpout.get_set, h] using hq

theorem keeps_updWindow (l : Lane) (f : Window → Window) : Keeps s (s.updWindow l f) where
  lines := fun ⟨hs, hb⟩ => ⟨hs, PerLane.forall_get_set (p := fun _ => BridgeFramed) hb (hb l)⟩

/-- A window's move tells the view of it (R171). -/
theorem tells_moveWindow (l : Lane) (f : Window → Window) : Tells s (s.moveWindow l f) where
  toKeeps := (keeps_updWindow s l f).trans (keeps_notice _ _)
  views := fun held ⟨hs, hl, hf⟩ => by
    refine ⟨hs, fun m => ?_, hf⟩
    have hm := hl m
    by_cases h : m = l
    · subst h
      cases hw : (f (s.lwu.get m).window).state <;>
        simp [State.moveWindow, Iob.recompute, hw, WindowState.lit]
    · simpa [State.moveWindow, Iob.recompute, PerLane.get_set, h] using hm

/-! ### Gates (R49 to R52) -/

theorem commandedOpen_gateAfter (sp : Spout) (g : Gate) (open? : Bool) :
    commandedOpen (gateAfter s sp g open?).state = open? := by
  cases open? <;> cases hst : (s.gate sp g).state <;> simp only [gateAfter, hst] <;> try split
  all_goals rfl

theorem gateAfter_timed {sp : Spout} {g : Gate} (open? : Bool) (h : GateTimed (s.gate sp g)) :
    GateTimed (gateAfter s sp g open?) := by
  unfold gateAfter
  split
  case h_6 => exact h
  case h_5 => split <;> simp [GateTimed]
  all_goals simp [GateTimed]

/-- An output command moves the terminals and the supervision together. -/
theorem tells_commandOutputs (sp : Spout) (coarse fine aeration : Bool) :
    Tells s (s.commandOutputs sp coarse fine aeration) := by
  rw [commandOutputs_eq]
  exact
    { gates := fun h q g => by
        have hq := h q g
        by_cases hqs : q = sp
        · subst hqs
          cases g <;>
            simpa [State.gate, PerGate.get, gateTerminal, commandedOpen_gateAfter] using
              gateAfter_timed s _ hq.1
        · simpa [State.gate, gateTerminal, PerSpout.get_set, hqs] using hq }

theorem tells_setGate {sp : Spout} {g : Gate} {v : GateSup} (htimed : GateTimed (s.gate sp g) → GateTimed v)
    (hopen : commandedOpen v.state = commandedOpen (s.gate sp g).state) : Tells s (s.setGate sp g v) where
  gates := fun h q k => by
    have hq := h q k
    by_cases hqs : q = sp
    · subst hqs
      by_cases hk : k = g
      · subst hk
        simpa [State.gate, gateTerminal] using ⟨htimed hq.1, hq.2.trans hopen.symm⟩
      · simpa [State.gate, gateTerminal, PerGate.get_set, hk] using hq
    · simpa [State.gate, gateTerminal, PerSpout.get_set, hqs] using hq

end

end Sys2Proof.Proofs

/-! What every step keeps, operation by operation: the properties that place spouts, orders and windows. -/

namespace Sys2Proof.Proofs

open Sys2Proof.Machine Sys2Proof.Safety Sys2Proof.Laws

/-! ## The placing properties, spout by spout -/

/-- The outputs and the grant of one spout as its state permits them (R82). -/
def PermittedAt (s : State) (sp : Spout) : Prop :=
  (s.iob.coarseOut.get sp = true → (s.sc.get sp).state = .coarse) ∧
    (s.iob.fineOut.get sp = true → (s.sc.get sp).state = .coarse ∨ (s.sc.get sp).state = .fine) ∧
    (s.iob.aeration.get sp = true → (s.sc.get sp).state.isFlowing = true) ∧
    ((s.sc.get sp).grantHeld = true ↔ (s.sc.get sp).state.isFlowing = true) ∧
    s.fa.holders.get sp = (s.sc.get sp).grantHeld

/-- The feed places of one spout (section 8.1, R135, R140). -/
def FeedPlacedAt (s : State) (sp : Spout) : Prop :=
  (sp ∈ s.fa.requests → (s.sc.get sp).state = .waitFeed ∨ (s.sc.get sp).state = .suspended) ∧
    (s.fa.holders.get sp = true → (s.sc.get sp).state.isFlowing = true) ∧
    ((s.sc.get sp).lockout ≠ .empty → (s.sc.get sp).state = .idle ∨ (s.sc.get sp).state = .aborting)

theorem feedPlaces_iff (s : State) : FeedPlaces s ↔ s.fa.requests.Nodup ∧ ∀ sp, FeedPlacedAt s sp := by
  simp only [FeedPlaces, FeedPlacedAt]
  exact ⟨fun ⟨hn, hr, hh, hl⟩ => ⟨hn, fun sp => ⟨hr sp, hh sp, hl sp⟩⟩,
    fun ⟨hn, h⟩ => ⟨hn, fun sp => (h sp).1, fun sp => (h sp).2.1, fun sp => (h sp).2.2⟩⟩

/-- The stage timer, the deadline and the suspension cause of one Spout Controller in the states that name them (R81). -/
def StagedIn (c : Sc) : Prop :=
  c.stage.map (·.name) = stageOf c.state ∧ (c.deadline.isSome = true ↔ c.state = .settle ∨ c.state = .aborting) ∧
    (c.cause.isSome = true ↔ c.state = .suspended)

/-! ## The work of one command -/

/-- What the blocks do inside a command keeps every property but the places of the windows, each given the ones it leans on. -/
structure Moves (s t : State) : Prop extends Keeps s t where
  views : ViewsExact s → ViewsExact t
  permitted : GatePermissions s → GatePermissions t
  feed : FeedPlaces s → FeedPlaces t
  orders : FeedPlaces s → OrdersPlaced s → OrdersPlaced t
  stages : FeedPlaces s → OrdersPlaced s → StagesPlaced s → StagesPlaced t

theorem Moves.trans {s t u : State} (h : Moves s t) (k : Moves t u) : Moves s u where
  toKeeps := h.toKeeps.trans k.toKeeps
  views := k.views ∘ h.views
  permitted := k.permitted ∘ h.permitted
  feed := k.feed ∘ h.feed
  orders := fun hf ho => k.orders (h.feed hf) (h.orders hf ho)
  stages := fun hf ho hs => k.stages (h.feed hf) (h.orders hf ho) (h.stages hf ho hs)

/-- What the blocks do inside a command keeps every property. -/
structure Work (s t : State) : Prop extends Moves s t where
  windows : FeedPlaces s → WindowsPlaced s → WindowsPlaced t

theorem Work.refl (s : State) : Work s s := ⟨⟨{}, id, id, id, fun _ => id, fun _ _ => id⟩, fun _ => id⟩

theorem Work.trans {s t u : State} (h : Work s t) (k : Work t u) : Work s u where
  toMoves := h.toMoves.trans k.toMoves
  windows := fun hf hw => k.windows (h.feed hf) (h.windows hf hw)

theorem Work.ite {s t u : State} {p : Prop} [Decidable p] (h : p → Work s t) (k : ¬ p → Work s u) :
    Work s (if p then t else u) := by
  split
  · exact h ‹_›
  · exact k ‹_›

theorem Tells.viewsExact {s t : State} (h : Tells s t) (hc : t.fa.condition = s.fa.condition) :
    ViewsExact s → ViewsExact t := by
  simp only [viewsExact_iff, hc]
  exact h.views _

/-! ## Orders and windows as the other blocks leave them -/

/-- The records of active orders alone change, and neither their state nor their spout. -/
def SlotsKept (s t : State) : Prop :=
  ∀ i, t.ot.slot i = s.ot.slot i ∨
    ((∃ q, (s.sc.get q).active = some i ∨ (s.fc.get q).active = some i) ∧
      (t.ot.slot i).state = (s.ot.slot i).state ∧ (t.ot.slot i).spout = (s.ot.slot i).spout)

/-- A window keeps what places it: its state, its claims and the name of its timer. -/
def WindowsKept (s t : State) : Prop :=
  ∀ l, (t.lwu.get l).window.state = (s.lwu.get l).window.state ∧
    (t.lwu.get l).window.claims = (s.lwu.get l).window.claims ∧
    (t.lwu.get l).window.timer.map (·.name) = (s.lwu.get l).window.timer.map (·.name)

theorem SlotsKept.of_eq {s t : State} (h : t.ot.slots = s.ot.slots) : SlotsKept s t :=
  fun i => .inl (by simp only [Ot.slot, h])

theorem WindowsKept.refl (s : State) : WindowsKept s s := fun _ => ⟨rfl, rfl, rfl⟩

theorem ordersPlaced_congr {s t : State} (hslots : SlotsKept s t) (hq : t.ot.queues = s.ot.queues)
    (hl : t.ot.lastEnded = s.ot.lastEnded) (hsc : ∀ q, (t.sc.get q).active = (s.sc.get q).active)
    (hst : ∀ q, (t.sc.get q).state.isActive = (s.sc.get q).state.isActive)
    (hfc : ∀ q, (t.fc.get q).active = (s.fc.get q).active) (h : OrdersPlaced s) : OrdersPlaced t := by
  obtain ⟨hsp, hfree⟩ := h
  have hactive : ∀ i, (∃ q, (s.sc.get q).active = some i ∨ (s.fc.get q).active = some i) →
      (s.ot.slot i).state = .active := by
    rintro i ⟨q, hi⟩
    obtain ⟨_, _, _, hact, _, hsame, _⟩ := hsp q
    rw [hsame, or_self] at hi
    exact ((hact i).1 hi).1
  have hstate : ∀ i, (t.ot.slot i).state = (s.ot.slot i).state := by
    intro i
    rcases hslots i with h | h
    · rw [h]
    · exact h.2.1
  have hspout : ∀ i, (t.ot.slot i).spout = (s.ot.slot i).spout := by
    intro i
    rcases hslots i with h | h
    · rw [h]
    · exact h.2.2
  constructor
  · simpa only [hq, hl, hsc, hst, hfc, hstate, hspout] using hsp
  · intro i
    refine ⟨?_, by rw [hstate, hspout]; exact (hfree i).2⟩
    rcases hslots i with h | ⟨hi, _, _⟩
    · rw [h]; exact (hfree i).1
    · have : (t.ot.slot i).state = .active := (hstate i).trans (hactive i hi)
      refine ⟨fun hf => by simp [this] at hf, fun hc => by rw [hc] at this; cases this⟩

theorem windowsPlaced_congr {s t : State} (hw : WindowsKept s t)
    (hst : ∀ q, (t.sc.get q).state.isActive = (s.sc.get q).state.isActive)
    (htare : ∀ q, (t.sc.get q).state = .tare ↔ (s.sc.get q).state = .tare) (h : WindowsPlaced s) :
    WindowsPlaced t := by
  intro l
  obtain ⟨hstate, hclaims, htimer⟩ := hw l
  simpa only [hstate, hclaims, htimer, hst, htare] using h l

/-! ## Operations that move no spout, no order and no window -/

/-- The items of a Spout Controller that place its spout stay as they are. -/
def SameRole (c d : Sc) : Prop :=
  d.state = c.state ∧ d.active = c.active ∧ d.grantHeld = c.grantHeld ∧ d.lockout = c.lockout ∧
    d.stage.map (·.name) = c.stage.map (·.name) ∧ d.deadline.isSome = c.deadline.isSome ∧
    d.cause.isSome = c.cause.isSome

theorem SameRole.refl (c : Sc) : SameRole c c := ⟨rfl, rfl, rfl, rfl, rfl, rfl, rfl⟩

theorem StagedIn.of_sameRole {c d : Sc} (h : SameRole c d) : StagedIn c → StagedIn d := by
  obtain ⟨hstate, _, _, _, hstage, hdeadline, hcause⟩ := h
  simp only [StagedIn, hstate, hstage, hdeadline, hcause]
  exact id

/-- Everything that places a spout, an order or a window stays as it is. -/
structure SamePlaces (s t : State) : Prop where
  role : ∀ q, SameRole (s.sc.get q) (t.sc.get q) := by exact fun _ => SameRole.refl _
  requests : t.fa.requests = s.fa.requests := by rfl
  holders : t.fa.holders = s.fa.holders := by rfl
  condition : t.fa.condition = s.fa.condition := by rfl
  coarse : t.iob.coarseOut = s.iob.coarseOut := by rfl
  fine : t.iob.fineOut = s.iob.fineOut := by rfl
  aeration : t.iob.aeration = s.iob.aeration := by rfl
  slots : SlotsKept s t := by exact SlotsKept.of_eq rfl
  queues : t.ot.queues = s.ot.queues := by rfl
  lastEnded : t.ot.lastEnded = s.ot.lastEnded := by rfl
  fcActive : ∀ q, (t.fc.get q).active = (s.fc.get q).active := by exact fun _ => rfl
  windows : WindowsKept s t := by exact WindowsKept.refl _

theorem Work.of_samePlaces {s t : State} (h : Tells s t) (p : SamePlaces s t) : Work s t where
  toKeeps := h.toKeeps
  views := h.viewsExact p.condition
  permitted := fun hs q => by
    obtain ⟨hstate, _, hgrant, _⟩ := p.role q
    simpa only [p.coarse, p.fine, p.aeration, p.holders, hstate, hgrant] using hs q
  feed := fun hs => by
    rw [feedPlaces_iff] at hs ⊢
    refine ⟨by rw [p.requests]; exact hs.1, fun q => ?_⟩
    obtain ⟨hstate, _, _, hlockout, _⟩ := p.role q
    simpa only [FeedPlacedAt, p.requests, p.holders, hstate, hlockout] using hs.2 q
  orders := fun _ =>
    ordersPlaced_congr p.slots p.queues p.lastEnded (fun q => (p.role q).2.1)
      (fun q => by rw [(p.role q).1]) p.fcActive
  stages := fun _ _ hs q => StagedIn.of_sameRole (p.role q) (hs q)
  windows := fun _ =>
    windowsPlaced_congr p.windows (fun q => by rw [(p.role q).1]) fun q => by rw [(p.role q).1]

/-! ## Operations that move one spout -/

/-- What places the other spouts stays as it is. -/
structure Elsewhere (sp : Spout) (s t : State) : Prop where
  sc : ∀ q, q ≠ sp → t.sc.get q = s.sc.get q := by exact fun _ _ => rfl
  requests : ∀ q, q ≠ sp → (q ∈ t.fa.requests ↔ q ∈ s.fa.requests) := by exact fun _ _ => Iff.rfl
  nodup : s.fa.requests.Nodup → t.fa.requests.Nodup := by exact id
  holders : ∀ q, q ≠ sp → t.fa.holders.get q = s.fa.holders.get q := by exact fun _ _ => rfl
  condition : t.fa.condition = s.fa.condition := by rfl
  coarse : ∀ q, q ≠ sp → t.iob.coarseOut.get q = s.iob.coarseOut.get q := by exact fun _ _ => rfl
  fine : ∀ q, q ≠ sp → t.iob.fineOut.get q = s.iob.fineOut.get q := by exact fun _ _ => rfl
  aeration : ∀ q, q ≠ sp → t.iob.aeration.get q = s.iob.aeration.get q := by exact fun _ _ => rfl

theorem Elsewhere.trans {sp : Spout} {s t u : State} (h : Elsewhere sp s t) (k : Elsewhere sp t u) :
    Elsewhere sp s u where
  sc q hq := (k.sc q hq).trans (h.sc q hq)
  requests q hq := (k.requests q hq).trans (h.requests q hq)
  nodup := k.nodup ∘ h.nodup
  holders q hq := (k.holders q hq).trans (h.holders q hq)
  condition := k.condition.trans h.condition
  coarse q hq := (k.coarse q hq).trans (h.coarse q hq)
  fine q hq := (k.fine q hq).trans (h.fine q hq)
  aeration q hq := (k.aeration q hq).trans (h.aeration q hq)

/-- An operation at one spout whose load goes on: the orders and the windows stay placed as they are too. -/
structure OnlyAt (sp : Spout) (s t : State) : Prop extends Elsewhere sp s t where
  active : (t.sc.get sp).active = (s.sc.get sp).active := by rfl
  slots : SlotsKept s t := by exact SlotsKept.of_eq rfl
  queues : t.ot.queues = s.ot.queues := by rfl
  lastEnded : t.ot.lastEnded = s.ot.lastEnded := by rfl
  fcActive : ∀ q, (t.fc.get q).active = (s.fc.get q).active := by exact fun _ => rfl
  windows : WindowsKept s t := by exact WindowsKept.refl _

theorem OnlyAt.active_all {sp : Spout} {s t : State} (h : OnlyAt sp s t) (q : Spout) :
    (t.sc.get q).active = (s.sc.get q).active := by
  by_cases hq : q = sp
  · rw [hq]; exact h.active
  · rw [h.sc q hq]

theorem SlotsKept.trans {s t u : State} (h : SlotsKept s t) (k : SlotsKept t u)
    (hsc : ∀ q, (t.sc.get q).active = (s.sc.get q).active)
    (hfc : ∀ q, (t.fc.get q).active = (s.fc.get q).active) : SlotsKept s u := by
  intro i
  have hi := h i
  have ki := k i
  simp only [hsc, hfc] at ki
  rcases hi with hi | ⟨ha, hst, hsp⟩ <;> rcases ki with ki | ⟨ka, kst, ksp⟩
  · exact .inl (ki.trans hi)
  · exact .inr ⟨ka, by rw [kst, hi], by rw [ksp, hi]⟩
  · exact .inr ⟨ha, by rw [ki, hst], by rw [ki, hsp]⟩
  · exact .inr ⟨ha, kst.trans hst, ksp.trans hsp⟩

theorem WindowsKept.trans {s t u : State} (h : WindowsKept s t) (k : WindowsKept t u) : WindowsKept s u :=
  fun l => ⟨(k l).1.trans (h l).1, (k l).2.1.trans (h l).2.1, (k l).2.2.trans (h l).2.2⟩

theorem OnlyAt.trans {sp : Spout} {s t u : State} (h : OnlyAt sp s t) (k : OnlyAt sp t u) : OnlyAt sp s u where
  toElsewhere := h.toElsewhere.trans k.toElsewhere
  active := k.active.trans h.active
  slots := h.slots.trans k.slots h.active_all h.fcActive
  queues := k.queues.trans h.queues
  lastEnded := k.lastEnded.trans h.lastEnded
  fcActive q := (k.fcActive q).trans (h.fcActive q)
  windows := h.windows.trans k.windows

/-- A property of every spout, from the others as they were and the one where it is now. -/
theorem forall_of_elsewhere {p : Spout → Prop} (sp : Spout) (hat : p sp) (h : ∀ q, q ≠ sp → p q) (q : Spout) :
    p q := by
  by_cases hq : q = sp
  · rw [hq]; exact hat
  · exact h q hq

/-- One spout moves, and is placed where it then is. -/
theorem Moves.of_elsewhere {sp : Spout} {s t : State} (h : Tells s t) (o : Elsewhere sp s t)
    (hpermitted : GatePermissions s → PermittedAt t sp) (hfeed : FeedPlaces s → FeedPlacedAt t sp)
    (horders : FeedPlaces s → OrdersPlaced s → OrdersPlaced t)
    (hstaged : FeedPlaces s → OrdersPlaced s → StagedIn (s.sc.get sp) → StagedIn (t.sc.get sp)) : Moves s t where
  toKeeps := h.toKeeps
  views := h.viewsExact o.condition
  permitted := fun hs => forall_of_elsewhere sp (hpermitted hs) fun q hq => by
    simpa only [o.coarse q hq, o.fine q hq, o.aeration q hq, o.holders q hq, o.sc q hq] using hs q
  feed := fun hs => by
    have hat := hfeed hs
    rw [feedPlaces_iff] at hs ⊢
    refine ⟨o.nodup hs.1, forall_of_elsewhere sp hat fun q hq => ?_⟩
    simpa only [FeedPlacedAt, o.requests q hq, o.holders q hq, o.sc q hq] using hs.2 q
  orders := horders
  stages := fun hf ho hs => forall_of_elsewhere sp (hstaged hf ho (hs sp)) fun q hq => by
    simpa only [o.sc q hq] using hs q

/-- A spout on a load goes from one state of it to another. -/
theorem Moves.of_onlyAt {sp : Spout} {s t : State} (h : Tells s t) (o : OnlyAt sp s t)
    (hpermitted : GatePermissions s → PermittedAt t sp) (hfeed : FeedPlaces s → FeedPlacedAt t sp)
    (hactive : FeedPlaces s → (t.sc.get sp).state.isActive = (s.sc.get sp).state.isActive)
    (hstaged : FeedPlaces s → OrdersPlaced s → StagedIn (s.sc.get sp) → StagedIn (t.sc.get sp)) : Moves s t :=
  .of_elsewhere h o.toElsewhere hpermitted hfeed
    (fun hf => ordersPlaced_congr o.slots o.queues o.lastEnded o.active_all
      (forall_of_elsewhere sp (hactive hf) fun q hq => by rw [o.sc q hq]) o.fcActive)
    hstaged

/-- A spout on a load goes from one state of it to another, neither or both of them TARE. -/
theorem Work.of_onlyAt {sp : Spout} {s t : State} (h : Tells s t) (o : OnlyAt sp s t)
    (hpermitted : GatePermissions s → PermittedAt t sp) (hfeed : FeedPlaces s → FeedPlacedAt t sp)
    (hactive : FeedPlaces s → (t.sc.get sp).state.isActive = (s.sc.get sp).state.isActive)
    (htare : FeedPlaces s → ((t.sc.get sp).state = .tare ↔ (s.sc.get sp).state = .tare))
    (hstaged : FeedPlaces s → OrdersPlaced s → StagedIn (s.sc.get sp) → StagedIn (t.sc.get sp)) : Work s t where
  toMoves := .of_onlyAt h o hpermitted hfeed hactive hstaged
  windows := fun hf => windowsPlaced_congr o.windows
    (forall_of_elsewhere sp (hactive hf) fun q hq => by rw [o.sc q hq])
    (forall_of_elsewhere sp (htare hf) fun q hq => by rw [o.sc q hq])

end Sys2Proof.Proofs

/-! What every step keeps: the operations of a spout on its load. -/

namespace Sys2Proof.Proofs

open Sys2Proof.Machine Sys2Proof.Safety Sys2Proof.Laws

/-- An operation of a spout inside its load. -/
structure Acts (sp : Spout) (s t : State) : Prop extends Tells s t, OnlyAt sp s t

theorem Acts.trans {sp : Spout} {s t u : State} (h : Acts sp s t) (k : Acts sp t u) : Acts sp s u where
  toTells := h.toTells.trans k.toTells
  toOnlyAt := h.toOnlyAt.trans k.toOnlyAt

theorem Acts.refl (sp : Spout) (s : State) : Acts sp s s where
  toTells := .refl s
  toOnlyAt := {}

theorem PerSpout.get_set_of_ne {α : Type} (t : PerSpout α) {sp : Spout} (v : α) :
    ∀ q, q ≠ sp → (t.set sp v).get q = t.get q := fun _ hq => PerSpout.get_set_ne t v hq

/-- A change of a Flow Computer that leaves its active order. -/
theorem fcActive_set {s : State} {sp : Spout} {f : Fc} (h : f.active = (s.fc.get sp).active) (q : Spout) :
    ((s.fc.set sp f).get q).active = (s.fc.get q).active :=
  PerSpout.forall_get_set (p := fun q (g : Fc) => g.active = (s.fc.get q).active) (fun _ => rfl) h q

/-- A change of one window that keeps what places it. -/
theorem windowsKept_set {s : State} {l : Lane} {u : Lwu}
    (hstate : u.window.state = (s.lwu.get l).window.state) (hclaims : u.window.claims = (s.lwu.get l).window.claims)
    (htimer : u.window.timer.map (·.name) = (s.lwu.get l).window.timer.map (·.name)) (m : Lane) :
    ((s.lwu.set l u).get m).window.state = (s.lwu.get m).window.state ∧
      ((s.lwu.set l u).get m).window.claims = (s.lwu.get m).window.claims ∧
      ((s.lwu.set l u).get m).window.timer.map (·.name) = (s.lwu.get m).window.timer.map (·.name) :=
  PerLane.forall_get_set
    (p := fun m (v : Lwu) => v.window.state = (s.lwu.get m).window.state ∧
      v.window.claims = (s.lwu.get m).window.claims ∧
      v.window.timer.map (·.name) = (s.lwu.get m).window.timer.map (·.name))
    (fun _ => ⟨rfl, rfl, rfl⟩) ⟨hstate, hclaims, htimer⟩ m

/-- A change of one slot's record that keeps its state and its spout, at a slot that a spout holds. -/
theorem slotsKept_set {s : State} {i : Fin 16} {r : SlotRec}
    (hheld : ∃ q, (s.sc.get q).active = some i ∨ (s.fc.get q).active = some i)
    (hstate : r.state = (s.ot.slot i).state) (hspout : r.spout = (s.ot.slot i).spout) (j : Fin 16) :
    (s.ot.setSlot i r).slot j = s.ot.slot j ∨
      ((∃ q, (s.sc.get q).active = some j ∨ (s.fc.get q).active = some j) ∧
        ((s.ot.setSlot i r).slot j).state = (s.ot.slot j).state ∧
        ((s.ot.setSlot i r).slot j).spout = (s.ot.slot j).spout) := by
  by_cases h : j = i
  · subst h
    exact .inr (by simpa using ⟨hheld, hstate, hspout⟩)
  · exact .inl (by simp [slot_setSlot, h])

section
variable (s : State) (sp : Spout)

theorem acts_updSc {f : Sc → Sc} (hstate : (f (s.sc.get sp)).state = (s.sc.get sp).state := by rfl)
    (hlockout : (f (s.sc.get sp)).lockout = (s.sc.get sp).lockout := by rfl)
    (hactive : (f (s.sc.get sp)).active = (s.sc.get sp).active := by rfl) : Acts sp s (s.updSc sp f) where
  toTells := tells_updSc s hstate hlockout
  sc := PerSpout.get_set_of_ne _ _
  active := by simpa using hactive

theorem acts_setStage (t : Option StageTimer) : Acts sp s (s.setStage sp t) := acts_updSc s sp

theorem acts_commandOutputs (coarse fine aeration : Bool) :
    Acts sp s (s.commandOutputs sp coarse fine aeration) where
  toTells := tells_commandOutputs s sp coarse fine aeration
  coarse := PerSpout.get_set_of_ne _ _
  fine := PerSpout.get_set_of_ne _ _
  aeration := PerSpout.get_set_of_ne _ _

theorem acts_releaseGrant : Acts sp s (s.releaseGrant sp) where
  toTells := tells_releaseGrant s sp
  sc := PerSpout.get_set_of_ne _ _
  active := by simp [State.releaseGrant]
  holders := PerSpout.get_set_of_ne _ _

theorem acts_setSpoutState (st : SpoutState) : Acts sp s (s.setSpoutState sp st) where
  toTells := tells_setSpoutState s sp st
  sc := PerSpout.get_set_of_ne _ _
  active := by simp [setSpoutState_eq, enters]
  fcActive := fcActive_set rfl

theorem acts_requestFeed : Acts sp s (s.requestFeed sp) where
  toTells := tells_requestFeed s sp
  requests q hq := by
    simp only [State.requestFeed, State.updFa_fa]
    split <;> simp [hq]
  nodup h := by
    simp only [State.requestFeed, State.updFa_fa]
    split
    · exact h
    · next hr => exact List.nodup_append.2 ⟨h, List.nodup_singleton sp, fun x hx y hy => by
        rw [List.mem_singleton.1 hy]; exact fun hxy => hr (hxy ▸ hx)⟩
  holders q _ := by
    simp only [State.requestFeed, State.updFa_fa]
    split <;> rfl
  condition := by
    simp only [State.requestFeed, State.updFa_fa]
    split <;> rfl

theorem acts_withdrawFeed : Acts sp s (s.withdrawFeed sp) where
  toTells := tells_withdrawFeed s sp
  requests q hq := by simp [State.withdrawFeed, hq]
  nodup h := h.filter _

theorem acts_writeCutoff : Acts sp s (s.writeCutoff sp) := by
  unfold State.writeCutoff
  split
  · exact .refl sp s
  · next i h => exact { toTells := tells_updSlot s i _, slots := slotsKept_set ⟨sp, .inl h⟩ rfl rfl }

theorem acts_countSuspension : Acts sp s (s.countSuspension sp) := by
  unfold State.countSuspension
  split
  · exact .refl sp s
  · next i h => exact { toTells := tells_updSlot s i _, slots := slotsKept_set ⟨sp, .inl h⟩ rfl rfl }

/-- What a window gathers does not place it. -/
theorem acts_gather (f : Contribution → Contribution) (q : Spout) : Acts sp s (s.gather q f) := by
  unfold State.gather
  refine { toTells := tells_updWindow s ?_, windows := windowsKept_set ?_ ?_ ?_ } <;> (try dsimp only) <;>
    split <;> rfl

theorem enterLockout_of_has {r : LockoutReason} (h : (s.sc.get sp).lockout.has r = true) :
    s.enterLockout sp r = s :=
  if_pos h

theorem enterLockout_of_not_has {r : LockoutReason} (h : ¬ (s.sc.get sp).lockout.has r = true) :
    s.enterLockout sp r =
      ((s.updSc sp fun c => { c with lockout := c.lockout.add r }).pushEvent (.spout sp)
          (.lockoutSet r ((s.sc.get sp).lockout.add r) (s.sc.get sp).state)).notice
        fun v => { v with lockout := v.lockout.set sp true } :=
  if_neg h

theorem acts_enterLockout (r : LockoutReason) : Acts sp s (s.enterLockout sp r) := by
  have tells := tells_enterLockout s sp r
  by_cases h : (s.sc.get sp).lockout.has r = true
  · rw [enterLockout_of_has s sp h]; exact .refl sp s
  · rw [enterLockout_of_not_has s sp h] at tells ⊢
    exact { toTells := tells, sc := PerSpout.get_set_of_ne _ _, active := by simp }

/-- A cause that is gathered leaves everything at its spout but the lockout set and the gathered reasons. -/
structure Gathers (sp : Spout) (s t : State) : Prop where
  fa : t.fa = s.fa
  coarse : t.iob.coarseOut = s.iob.coarseOut
  fine : t.iob.fineOut = s.iob.fineOut
  aeration : t.iob.aeration = s.iob.aeration
  lwu : t.lwu = s.lwu
  item : ∃ lockout reasons, t.sc.get sp = { s.sc.get sp with lockout, reasons }

theorem gathers_lockoutCause (r : AbortReason) : Gathers sp s (s.lockoutCause sp r) := by
  unfold State.lockoutCause
  split
  · exact ⟨rfl, rfl, rfl, rfl, rfl, _, _, rfl⟩
  · next k _ =>
    by_cases h : (s.sc.get sp).lockout.has k = true
    · rw [enterLockout_of_has s sp h]; exact ⟨rfl, rfl, rfl, rfl, rfl, _, _, rfl⟩
    · rw [enterLockout_of_not_has s sp h]
      exact ⟨rfl, rfl, rfl, rfl, rfl, _, _, PerSpout.get_set_self ..⟩

theorem gathers_gatherCause (r : AbortReason) : Gathers sp s (s.gatherCause sp r) := by
  obtain ⟨fa, coarse, fine, aeration, lwu, lockout, reasons, item⟩ :=
    gathers_lockoutCause (s.updSc sp fun c => { c with reasons := c.reasons.add r }) sp r
  exact ⟨fa, coarse, fine, aeration, lwu, lockout, reasons, by rw [State.gatherCause, item]; simp⟩

theorem acts_lockoutCause (r : AbortReason) : Acts sp s (s.lockoutCause sp r) := by
  unfold State.lockoutCause
  split
  · exact .refl sp s
  · exact acts_enterLockout s sp _

theorem acts_gatherCause (r : AbortReason) : Acts sp s (s.gatherCause sp r) :=
  (acts_updSc s sp).trans (acts_lockoutCause _ sp r)

theorem acts_outputsOff : Acts sp s (s.outputsOff sp) := acts_commandOutputs s sp false false false

theorem acts_startSettle (st : SpoutState) : Acts sp s (s.startSettle sp st) :=
  (((acts_outputsOff s sp).trans (acts_releaseGrant _ sp)).trans (acts_updSc _ sp)).trans
    (acts_setSpoutState _ sp st)

theorem acts_enterFine : Acts sp s (s.enterFine sp) :=
  ((acts_commandOutputs s sp _ _ _).trans (acts_setStage _ sp none)).trans (acts_setSpoutState _ sp .fine)

theorem acts_enterCoarse : Acts sp s (s.enterCoarse sp) :=
  ((acts_commandOutputs s sp _ _ _).trans (acts_setStage _ sp none)).trans (acts_setSpoutState _ sp .coarse)

theorem acts_suspend (cause : SuspendCause) : Acts sp s (s.suspend sp cause) := by
  unfold State.suspend
  exact ((((((((acts_setStage s sp none).trans (acts_outputsOff _ sp)).trans (acts_releaseGrant _ sp)).trans
    (acts_updSc _ sp)).trans (acts_countSuspension _ sp)).trans (acts_setStage _ sp _)).trans
      (acts_requestFeed _ sp)).trans (acts_setSpoutState _ sp .suspended)).trans
        (acts_gather _ sp (fun c => { c with suspended := true }) sp)

end

end Sys2Proof.Proofs

/-! What every step keeps: a spout on its grant, and the aborts. -/

namespace Sys2Proof.Proofs

open Sys2Proof.Machine Sys2Proof.Safety Sys2Proof.Laws

/-! ## Where the operations of a spout leave it -/

section
variable (s : State) (sp : Spout)

theorem startSettle_item (st : SpoutState) :
    (s.startSettle sp st).sc.get sp =
      { s.sc.get sp with
        state := st, grantHeld := false
        stage := some ⟨.settle, s.now + (s.params.get sp).settle⟩
        deadline := some (s.now + (s.params.get sp).settleMax) } := by
  simp [startSettle_eq, settling, grantReturned, movedTo]

theorem startSettle_fa (st : SpoutState) :
    (s.startSettle sp st).fa = { s.fa with holders := s.fa.holders.set sp false } := by
  simp [startSettle_eq, settling, grantReturned, movedTo]

theorem startSettle_off (st : SpoutState) :
    (s.startSettle sp st).iob.coarseOut.get sp = false ∧ (s.startSettle sp st).iob.fineOut.get sp = false ∧
      (s.startSettle sp st).iob.aeration.get sp = false := by
  simp [startSettle_eq, settling, grantReturned, movedTo, Iob.recompute]

theorem writeCutoff_eq_updOt : ∃ f : Ot → Ot, s.writeCutoff sp = s.updOt f := by
  unfold State.writeCutoff
  split
  · exact ⟨id, rfl⟩
  · exact ⟨_, rfl⟩

theorem suspend_item (cause : SuspendCause) :
    (s.suspend sp cause).sc.get sp =
      { s.sc.get sp with
        state := .suspended, grantHeld := false, cause := some cause
        stage := some ⟨.suspend, s.now + (s.params.get sp).suspend * 1000⟩ } := by
  simp only [State.suspend, State.suspensionNotice, gather_eq, setSpoutState_eq, enters, countSuspension_eq,
    State.outputsOff, commandOutputs_eq]
  simp [State.requestFeed, State.releaseGrant]

@[simp] theorem requestFeed_holders : (s.requestFeed sp).fa.holders = s.fa.holders := by
  simp only [State.requestFeed, State.updFa_fa]
  split <;> rfl

theorem suspend_holders (cause : SuspendCause) : (s.suspend sp cause).fa.holders.get sp = false := by
  simp only [State.suspend, State.suspensionNotice, gather_eq, setSpoutState_eq, enters, countSuspension_eq,
    State.outputsOff, commandOutputs_eq]
  simp [State.releaseGrant]

theorem suspend_off (cause : SuspendCause) :
    (s.suspend sp cause).iob.coarseOut.get sp = false ∧ (s.suspend sp cause).iob.fineOut.get sp = false ∧
      (s.suspend sp cause).iob.aeration.get sp = false := by
  simp only [State.suspend, State.suspensionNotice, gather_eq, setSpoutState_eq, enters, countSuspension_eq,
    State.outputsOff, commandOutputs_eq]
  simp [State.requestFeed, State.releaseGrant, Iob.recompute]

end

/-! ## A spout on its grant -/

/-- Since s, a spout has acted inside its load, and it may now run on its grant, settle or be suspended. -/
structure OnGrant (sp : Spout) (s u : State) : Prop where
  acts : Acts sp s u
  held : GatePermissions s → (u.sc.get sp).grantHeld = true ∧ u.fa.holders.get sp = true
  free : FeedPlaces s →
    sp ∉ u.fa.requests ∧ (u.sc.get sp).lockout = .empty ∧ (s.sc.get sp).state.isActive = true ∧
      (s.sc.get sp).state ≠ .tare
  clear : FeedPlaces s → OrdersPlaced s → StagedIn (s.sc.get sp) →
    (u.sc.get sp).deadline = none ∧ (u.sc.get sp).cause = none

/-- In a flowing state a spout does not wait, is not locked out, and has neither deadline nor cause. -/
theorem OnGrant.of_flowing {s : State} {sp : Spout} (h : (s.sc.get sp).state.isFlowing = true) :
    OnGrant sp s s where
  acts := .refl sp s
  held hs := by
    obtain ⟨_, _, _, hgrant, hholder⟩ := hs sp
    exact ⟨hgrant.2 h, hholder.trans (hgrant.2 h)⟩
  free hs := by
    obtain ⟨hreq, _, hlock⟩ := ((feedPlaces_iff s).1 hs).2 sp
    cases hst : (s.sc.get sp).state <;> simp_all [SpoutState.isFlowing, SpoutState.isActive]
  clear _ _ hs := by
    obtain ⟨_, hdeadline, hcause⟩ := hs
    cases hst : (s.sc.get sp).state <;> simp_all [SpoutState.isFlowing]

section
variable {s u : State} {sp : Spout}

/-- The states that a load leaves by a settle are active and not TARE. -/
theorem OnGrant.startSettle (h : OnGrant sp s u) : Work s (u.startSettle sp .settle) := by
  have acts := h.acts.trans (acts_startSettle u sp .settle)
  obtain ⟨coarse, fine, aeration⟩ := startSettle_off u sp .settle
  refine .of_onlyAt acts.toTells acts.toOnlyAt (fun _ => ?_) (fun hf => ?_) (fun hf => ?_) (fun hf => ?_)
    fun hf ho hs => ?_
  · simp [PermittedAt, coarse, fine, aeration, startSettle_item, startSettle_fa, SpoutState.isFlowing]
  · simp [FeedPlacedAt, startSettle_item, startSettle_fa, (h.free hf).1, (h.free hf).2.1]
  · rw [startSettle_item]; exact (h.free hf).2.2.1.symm
  · simp [startSettle_item, (h.free hf).2.2.2]
  · simp [StagedIn, startSettle_item, stageOf, (h.clear hf ho hs).2]

theorem OnGrant.reachFine (h : OnGrant sp s u) : Work s (u.reachFine sp) := by
  have acts := h.acts.trans (acts_writeCutoff u sp)
  obtain ⟨f, hf⟩ := writeCutoff_eq_updOt u sp
  unfold State.reachFine
  rw [hf] at acts ⊢
  exact OnGrant.startSettle ⟨acts, h.held, h.free, h.clear⟩

/-- A flowing state entered on the grant, with the outputs it permits and its stage timer. -/
theorem OnGrant.flow {t : State} (h : OnGrant sp s u) (acts : Acts sp s t) {st : SpoutState}
    {stage : Option StageTimer} (hitem : t.sc.get sp = { u.sc.get sp with state := st, stage := stage })
    (hfa : t.fa = u.fa) (hflows : st.isFlowing = true)
    (hcoarse : GatePermissions s → t.iob.coarseOut.get sp = true → st = .coarse)
    (hfine : GatePermissions s → t.iob.fineOut.get sp = true → st = .coarse ∨ st = .fine)
    (hstage : (s.sc.get sp).active.isSome = true → stage.map (·.name) = stageOf st) : Work s t := by
  have hactive : st.isActive = true ∧ st ≠ .tare ∧ st ≠ .settle ∧ st ≠ .aborting ∧ st ≠ .suspended := by
    cases st <;> simp_all [SpoutState.isFlowing, SpoutState.isActive]
  refine .of_onlyAt acts.toTells acts.toOnlyAt (fun hp => ?_) (fun hf => ?_) (fun hf => ?_) (fun hf => ?_)
    fun hf ho hs => ?_
  · simp only [PermittedAt, hitem, hfa]
    exact ⟨hcoarse hp, hfine hp, fun _ => hflows, ⟨fun _ => hflows, fun _ => (h.held hp).1⟩,
      (h.held hp).2.trans (h.held hp).1.symm⟩
  · simp only [FeedPlacedAt, hitem, hfa]
    exact ⟨fun hr => absurd hr (h.free hf).1, fun _ => hflows, fun hl => absurd (h.free hf).2.1 hl⟩
  · simp only [hitem, hactive.1, (h.free hf).2.2.1]
  · simp only [hitem, hactive.2.1, (h.free hf).2.2.2]
  · have hsome : (s.sc.get sp).active.isSome = true := by
      obtain ⟨_, _, _, _, hsame, _⟩ := ho.1 sp
      exact hsame.trans (h.free hf).2.2.1
    simp only [StagedIn, hitem, hstage hsome, (h.clear hf ho hs).1, (h.clear hf ho hs).2]
    simp [hactive]

theorem OnGrant.enterFine (h : OnGrant sp s u) : Work s (u.enterFine sp) :=
  h.flow (h.acts.trans (acts_enterFine u sp)) (st := .fine) (stage := none)
    (by simp [enterFine_eq, movedTo]) (by simp [enterFine_eq, movedTo]) rfl
    (by simp [enterFine_eq, movedTo, Iob.recompute]) (fun _ _ => .inr rfl) fun _ => rfl

theorem OnGrant.enterCoarse (h : OnGrant sp s u) : Work s (u.enterCoarse sp) :=
  h.flow (h.acts.trans (acts_enterCoarse u sp)) (st := .coarse) (stage := none)
    (by simp [enterCoarse_eq, movedTo]) (by simp [enterCoarse_eq, movedTo]) rfl
    (fun _ _ => rfl) (fun _ _ => .inl rfl) fun _ => rfl

/-- The decision at the end of PRIME, for a spout whose gates are closed (R95). A spout with a placed order has one to
decide on. -/
theorem OnGrant.primeDecision (h : OnGrant sp s u) (hstate : (u.sc.get sp).state = .aerate)
    (hcoarse : GatePermissions s → u.iob.coarseOut.get sp = false)
    (hfine : GatePermissions s → u.iob.fineOut.get sp = false) :
    Work s (u.primeDecision sp) := by
  unfold State.primeDecision
  split
  case h_1 hnone =>
    refine h.flow (st := .aerate) (stage := (u.sc.get sp).stage) h.acts (by rw [← hstate]) rfl rfl
      (fun hp => by simp [hcoarse hp]) (fun hp => by simp [hfine hp]) fun hsome => ?_
    rw [← h.acts.active] at hsome
    simp [State.decision, Option.isSome_iff_ne_none.1 hsome] at hnone
  case h_2 => exact h.reachFine
  case h_3 => exact h.enterFine
  case h_4 => exact h.enterCoarse

theorem OnGrant.setStage (h : OnGrant sp s u) (t : Option StageTimer) : OnGrant sp s (u.setStage sp t) where
  acts := h.acts.trans (acts_setStage u sp t)
  held hs := by simpa using h.held hs
  free hs := by simpa using h.free hs
  clear hf ho hs := by simpa using h.clear hf ho hs

theorem OnGrant.suspend (h : OnGrant sp s u) (cause : SuspendCause) : Work s (u.suspend sp cause) := by
  have acts := h.acts.trans (acts_suspend u sp cause)
  obtain ⟨coarse, fine, aeration⟩ := suspend_off u sp cause
  refine .of_onlyAt acts.toTells acts.toOnlyAt (fun _ => ?_) (fun hf => ?_) (fun hf => ?_) (fun hf => ?_)
    fun hf ho hs => ?_
  · simp [PermittedAt, coarse, fine, aeration, suspend_item, suspend_holders, SpoutState.isFlowing]
  · simp [FeedPlacedAt, suspend_item, suspend_holders, (h.free hf).2.1]
  · rw [suspend_item]; exact (h.free hf).2.2.1.symm
  · simp [suspend_item, (h.free hf).2.2.2]
  · simp [StagedIn, suspend_item, stageOf, (h.clear hf ho hs).1]

/-- The entry to AERATE with its stage timer, before a prime time of 0 is looked at (R94). -/
theorem OnGrant.aerate (h : OnGrant sp s u) (t : Option StageTimer) :
    let v := ((u.commandOutputs sp false false true).setSpoutState sp .aerate).setStage sp t
    OnGrant sp s v ∧ v.sc.get sp = { u.sc.get sp with state := .aerate, stage := t } ∧
      v.fa = u.fa ∧ v.iob.coarseOut.get sp = false ∧ v.iob.fineOut.get sp = false := by
  intro v
  have acts := ((acts_commandOutputs u sp false false true).trans (acts_setSpoutState _ sp .aerate)).trans
    (acts_setStage _ sp t)
  have hitem : v.sc.get sp = { u.sc.get sp with state := .aerate, stage := t } := by
    simp [v, setSpoutState_eq, enters, commandOutputs_eq]
  have hfa : v.fa = u.fa := by simp [v, setSpoutState_eq, enters, commandOutputs_eq]
  refine ⟨⟨h.acts.trans acts, fun hs => ?_, fun hs => ?_, fun hf ho hs => ?_⟩, hitem, hfa, ?_, ?_⟩
  · rw [hitem, hfa]; exact h.held hs
  · rw [hitem, hfa]; exact h.free hs
  · rw [hitem]; exact h.clear hf ho hs
  all_goals simp [v, setSpoutState_eq, enters, commandOutputs_eq, Iob.recompute]

theorem OnGrant.enterAerate (h : OnGrant sp s u) : Work s (u.enterAerate sp) := by
  unfold State.enterAerate
  refine Work.ite (fun _ => ?_) fun _ => ?_
  · obtain ⟨grant, item, _, coarse, fine⟩ := h.aerate none
    exact grant.primeDecision (by rw [item]) (fun _ => coarse) fun _ => fine
  · obtain ⟨grant, item, fa, coarse, fine⟩ := h.aerate (some ⟨.prime, _⟩)
    exact h.flow grant.acts item fa rfl
      (fun _ on => absurd on (Bool.eq_false_iff.1 coarse)) (fun _ on => absurd on (Bool.eq_false_iff.1 fine)) fun _ => rfl

end

end Sys2Proof.Proofs

/-! What every step keeps: grants, decisions, suspensions and the feed condition. -/

namespace Sys2Proof.Proofs

open Sys2Proof.Machine Sys2Proof.Safety Sys2Proof.Laws

/-- Work done item by item along a list. -/
theorem Work.foldl {α : Type} {f : State → α → State} (h : ∀ s x, Work s (f s x)) (xs : List α) (s : State) :
    Work s (xs.foldl f s) := by
  induction xs generalizing s with
  | nil => exact .refl s
  | cons x xs ih => exact (h s x).trans (ih (f s x))

theorem Tells.foldl {α : Type} {f : State → α → State} (h : ∀ s x, Tells s (f s x)) (xs : List α) (s : State) :
    Tells s (xs.foldl f s) := by
  induction xs generalizing s with
  | nil => exact .refl s
  | cons x xs ih => exact (h s x).trans (ih (f s x))

/-! ## Grants (R141, R149) -/

/-- The head of the list leaves it and holds the grant (R141). -/
theorem acts_grant {s : State} {sp : Spout} {rest : List Spout} (hr : s.fa.requests = sp :: rest)
    (hg : s.fa.holderCount < s.fa.g) :
    Acts sp s (s.updFa fun f => { f with requests := rest, holders := f.holders.set sp true }) where
  toTells := tells_updFa s fun _ => (holderCount_set_true_le s.fa sp).trans hg
  requests q hq := by simp [hr, hq]
  nodup h := by
    rw [hr] at h
    exact (List.nodup_cons.1 h).2
  holders := PerSpout.get_set_of_ne _ _

theorem onGrant_grant {s : State} {sp : Spout} {rest : List Spout} (hr : s.fa.requests = sp :: rest)
    (hg : s.fa.holderCount < s.fa.g) :
    OnGrant sp s
      ((s.updFa fun f => { f with requests := rest, holders := f.holders.set sp true }).updSc sp fun c =>
        { c with grantHeld := true, stage := none, cause := none }) where
  acts := (acts_grant hr hg).trans (acts_updSc _ sp)
  held _ := by simp
  free hf := by
    obtain ⟨hn, hat⟩ := (feedPlaces_iff s).1 hf
    obtain ⟨hreq, _, hlock⟩ := hat sp
    have hst := hreq (by simp [hr])
    rw [hr] at hn
    have hl : (s.sc.get sp).lockout = .empty := by
      by_contra hne
      rcases hst with h | h <;> simp [h] at hlock <;> exact hne hlock
    refine ⟨by simpa using (List.nodup_cons.1 hn).1, by simpa using hl, ?_, ?_⟩ <;>
      rcases hst with h | h <;> simp [h, SpoutState.isActive]
  clear hf _ hs := by
    have hst := (((feedPlaces_iff s).1 hf).2 sp).1 (by simp [hr])
    obtain ⟨_, hdeadline, _⟩ := hs
    rcases hst with h | h <;> simpa [h] using hdeadline

theorem OnGrant.takes {s u : State} {sp : Spout} (h : OnGrant sp s u) :
    Work s (match u.decision sp with | some ⟨true, _⟩ => u.reachFine sp | _ => u.enterAerate sp) := by
  split
  · exact h.reachFine
  · exact h.enterAerate

theorem work_grantTurns (n : Nat) (s : State) : Work s (State.grantTurns n s) := by
  induction n generalizing s with
  | zero => exact .refl s
  | succ n ih =>
    rw [State.grantTurns]
    split
    · exact .refl s
    · next sp rest hr =>
      refine Work.ite (fun hg => ?_) fun _ => .refl s
      exact ((onGrant_grant hr hg.2).takes).trans (ih _)

theorem work_testGrant (s : State) : Work s s.testGrant := work_grantTurns _ s

/-! ## Decisions and suspensions (R96 to R98, R131, R132) -/

theorem work_sampleReport (s : State) (sp : Spout) : Work s (s.sampleReport sp) := by
  have onGrant : ∀ {st}, (s.sc.get sp).state = st → st.isFlowing = true → OnGrant sp s s :=
    fun h hflows => .of_flowing (h ▸ hflows)
  unfold State.sampleReport
  split
  · next h _ => exact (onGrant h rfl).reachFine
  · next h _ =>
    exact Work.ite (fun _ => (onGrant h rfl).suspend .feedHold) fun _ => (onGrant h rfl).enterFine
  · next h _ => exact (onGrant h rfl).reachFine
  · exact .refl s

theorem work_suspendRequest (s : State) (sp : Spout) (cause : SuspendCause) :
    Work s (s.suspendRequest sp cause) := by
  have onGrant : ∀ {st}, (s.sc.get sp).state = st → st.isFlowing = true → OnGrant sp s s :=
    fun h hflows => .of_flowing (h ▸ hflows)
  unfold State.suspendRequest
  split
  · next h => exact (onGrant h rfl).suspend _
  · next h => exact (onGrant h rfl).suspend .airFault
  · next h => exact (onGrant h rfl).suspend .airFault
  · exact .refl s

theorem acts_suspendRequest (s : State) (sp : Spout) (cause : SuspendCause) :
    Acts sp s (s.suspendRequest sp cause) := by
  unfold State.suspendRequest
  split
  · exact acts_suspend s sp _
  · exact acts_suspend s sp .airFault
  · exact acts_suspend s sp .airFault
  · exact .refl sp s

theorem work_suspendHolders (s : State) (cause : SuspendCause) : Work s (s.suspendHolders cause) :=
  Work.foldl (fun s sp => Work.ite (fun _ => work_suspendRequest s sp cause) fun _ => .refl s) _ s

theorem tells_suspendHolders (s : State) (cause : SuspendCause) : Tells s (s.suspendHolders cause) :=
  Tells.foldl (fun s sp => Tells.ite (fun _ => (acts_suspendRequest s sp cause).toTells) fun _ => .refl s) _ s

/-! ## The feed condition (R145) -/

/-- The suspensions that a change of the feed condition asks for (R145). -/
def suspendedFor (s : State) : FeedCond → State
  | .airFault => s.suspendHolders .airFault
  | .holdAirFault => s.suspendHolders .airFault
  | .hold => s.suspendHolders .feedHold
  | _ => s

theorem changeCondition_eq (s : State) (new : FeedCond) :
    s.changeCondition new =
      let t := suspendedFor (s.updFa fun f => { f with condition := new }) new
      (t.notice fun v => { v with feedHeld := decide (new ≠ .normal) }).pushEvent .station
        (.feedState s.fa.condition new t.fa.holderCount t.fa.requests.length t.fa.holdAck) := by
  cases new <;> rfl

theorem work_suspendedFor (s : State) (new : FeedCond) : Work s (suspendedFor s new) := by
  cases new
  case airFault => exact work_suspendHolders s .airFault
  case holdAirFault => exact work_suspendHolders s .airFault
  case hold => exact work_suspendHolders s .feedHold
  all_goals exact .refl s

theorem tells_suspendedFor (s : State) (new : FeedCond) : Tells s (suspendedFor s new) := by
  cases new
  case airFault => exact tells_suspendHolders s .airFault
  case holdAirFault => exact tells_suspendHolders s .airFault
  case hold => exact tells_suspendHolders s .feedHold
  all_goals exact .refl s

theorem condition_foldl_suspendRequest (cause : SuspendCause) (sps : List Spout) (s : State) :
    (sps.foldl (fun s sp => if s.fa.holders.get sp then s.suspendRequest sp cause else s) s).fa.condition =
      s.fa.condition := by
  induction sps generalizing s with
  | nil => rfl
  | cons sp sps ih =>
    rw [List.foldl_cons, ih]
    split
    · exact (acts_suspendRequest s sp cause).condition
    · rfl

theorem condition_suspendedFor (s : State) (new : FeedCond) : (suspendedFor s new).fa.condition = s.fa.condition := by
  cases new
  case airFault => exact condition_foldl_suspendRequest .airFault _ s
  case holdAirFault => exact condition_foldl_suspendRequest .airFault _ s
  case hold => exact condition_foldl_suspendRequest .feedHold _ s
  all_goals rfl

/-- The feed condition changes ahead of its view, which the notice then sets. -/
theorem work_changeCondition (s : State) (new : FeedCond) : Work s (s.changeCondition new) := by
  rw [changeCondition_eq]
  have changed : Tells s (s.updFa fun f => { f with condition := new }) :=
    tells_updFa s fun h => holderCount_le_of_grantLimit s h
  have work := work_suspendedFor (s.updFa fun f => { f with condition := new }) new
  have told := changed.trans (tells_suspendedFor (s.updFa fun f => { f with condition := new }) new)
  have condition := condition_suspendedFor (s.updFa fun f => { f with condition := new }) new
  exact
    { toKeeps := (told.toKeeps.trans (keeps_notice _ _)).trans (tells_pushEvent _ _ _).toKeeps
      views := fun hs => by
        obtain ⟨spouts, lanes, _⟩ := told.views _ ((viewsExact_iff s).1 hs)
        exact (viewsExact_iff _).2 ⟨spouts, lanes, congrArg (fun c : FeedCond => decide (c ≠ .normal)) condition.symm⟩
      permitted := work.permitted
      feed := work.feed
      orders := work.orders
      stages := work.stages
      windows := work.windows }

/-- The views of the station inputs place nothing. -/
theorem work_updFa_views (s : State) {f : Fa → Fa} (hg : (f s.fa).g = s.fa.g := by rfl)
    (hholders : (f s.fa).holders = s.fa.holders := by rfl) (hrequests : (f s.fa).requests = s.fa.requests := by rfl)
    (hcondition : (f s.fa).condition = s.fa.condition := by rfl) : Work s (s.updFa f) :=
  .of_samePlaces
    (tells_updFa s fun h => by
      have := holderCount_le_of_grantLimit s h
      simpa only [Fa.holderCount, hg, hholders] using this)
    { requests := hrequests, holders := hholders, condition := hcondition }

theorem work_feedNotice (s : State) {f : Fa → Fa} (hg : (f s.fa).g = s.fa.g := by rfl)
    (hholders : (f s.fa).holders = s.fa.holders := by rfl) (hrequests : (f s.fa).requests = s.fa.requests := by rfl)
    (hcondition : (f s.fa).condition = s.fa.condition := by rfl) : Work s (s.feedNotice f) := by
  have seen := work_updFa_views s hg hholders hrequests hcondition
  exact Work.ite (fun _ => seen) fun _ => seen.trans (work_changeCondition _ _)

end Sys2Proof.Proofs

/-! What every step keeps: the end of a load, and the abort causes. -/

namespace Sys2Proof.Proofs

open Sys2Proof.Machine Sys2Proof.Safety Sys2Proof.Laws

/-! ## The windows of a lane, clause by clause -/

/-- The clauses of `WindowsPlaced` but the last, with one spout counted as not in TARE: its claim is gone before its state
follows. -/
def ClaimsPlaced (left : Option Spout) (s : State) : Prop :=
  ∀ l,
    (s.lwu.get l).window.timer.map (·.name) = windowTimerOf (s.lwu.get l).window.state ∧
    (∀ p, (s.lwu.get l).window.claims.get p = true ↔
      (s.sc.get (l.spout p)).state = .tare ∧ some (l.spout p) ≠ left) ∧
    ((s.lwu.get l).window.state = .taring → ∃ p, (s.lwu.get l).window.claims.get p = true) ∧
    ((s.lwu.get l).window.state = .closed ∨ (s.lwu.get l).window.state = .opened →
      ∀ p, (s.lwu.get l).window.claims.get p = false)

/-- The last clause of `WindowsPlaced` for one lane: an OPEN window has an active spout (R167). -/
def OpenServed (s : State) (l : Lane) : Prop :=
  (s.lwu.get l).window.state = .opened → ∃ p, (s.sc.get (l.spout p)).state.isActive = true

theorem windowsPlaced_iff (s : State) : WindowsPlaced s ↔ ClaimsPlaced none s ∧ ∀ l, OpenServed s l := by
  simp only [WindowsPlaced, ClaimsPlaced, OpenServed, ne_eq, reduceCtorEq, not_false_eq_true, and_true]
  exact ⟨fun h => ⟨fun l => ⟨(h l).1, (h l).2.1, (h l).2.2.1, (h l).2.2.2.1⟩, fun l => (h l).2.2.2.2⟩,
    fun ⟨h, k⟩ l => ⟨(h l).1, (h l).2.1, (h l).2.2.1, (h l).2.2.2, k l⟩⟩

theorem ClaimsPlaced.of_not_tare {s : State} {sp : Spout} (h : ClaimsPlaced none s)
    (hst : (s.sc.get sp).state ≠ .tare) : ClaimsPlaced (some sp) s := by
  intro l
  obtain ⟨htimer, hclaims, hrest⟩ := h l
  refine ⟨htimer, fun p => (hclaims p).trans ?_, hrest⟩
  simp only [ne_eq, reduceCtorEq, not_false_eq_true, and_true, Option.some.injEq]
  exact ⟨fun ht => ⟨ht, fun he => hst (he ▸ ht)⟩, And.left⟩

theorem claimsPlaced_congr {left : Option Spout} {s t : State} (hlwu : WindowsKept s t)
    (hst : ∀ q, some q ≠ left → ((t.sc.get q).state = .tare ↔ (s.sc.get q).state = .tare))
    (h : ClaimsPlaced left s) : ClaimsPlaced left t := by
  intro l
  obtain ⟨hstate, hclaims, htimer⟩ := hlwu l
  obtain ⟨ht, hc, hrest⟩ := h l
  simp only [hstate, hclaims, htimer]
  refine ⟨ht, fun p => (hc p).trans ?_, hrest⟩
  exact ⟨fun ⟨h1, h2⟩ => ⟨(hst _ h2).2 h1, h2⟩, fun ⟨h1, h2⟩ => ⟨(hst _ h2).1 h1, h2⟩⟩

/-! ## The end of an order (R70, R71) -/

section
variable (s : State) (sp : Spout)

theorem endOrder_of_none (h : (s.sc.get sp).active = none) (n : EndNotice) : s.endOrder sp n = s := by
  simp [State.endOrder, h]

theorem endOrder_of_some {i : Fin 16} (h : (s.sc.get sp).active = some i) (n : EndNotice) :
    s.endOrder sp n =
      ((((((s.updSlot i fun r => r.ended n s.msTime).updOt fun t =>
        { t with lastEnded := t.lastEnded.set sp (some i) }).notice fun v =>
          { v with result := v.result.set sp true }).pushEvent (.spout sp) ((s.ot.slot i).endEvent i n)).updFc sp
            fun f => { f with active := none }).updSc sp fun c => { c with active := none }) := by
  simp only [State.endOrder, h]

theorem keeps_updOt (f : Ot → Ot) : Keeps s (s.updOt f) := {}

/-- A slot ends with RESULT_WAITING told (R71). -/
theorem tells_endSlot (i : Fin 16) (r : SlotRec) :
    Tells s (((s.updSlot i fun _ => r).updOt fun t => { t with lastEnded := t.lastEnded.set sp (some i) }).notice
      fun v => { v with result := v.result.set sp true }) where
  toKeeps := ((tells_updSlot s i fun _ => r).toKeeps.trans (keeps_updOt _ _)).trans (keeps_notice _ _)
  views := fun held ⟨hs, hl, hf⟩ => by
    refine ⟨forall_of_elsewhere sp ?_ fun q hq => ?_, hl, hf⟩
    · simpa [Iob.recompute] using ⟨(hs sp).1, (hs sp).2.1, (hs sp).2.2.1⟩
    · simpa [Iob.recompute, PerSpout.get_set, hq, Ot.setSlot] using hs q

theorem tells_endOrder (n : EndNotice) : Tells s (s.endOrder sp n) := by
  cases h : (s.sc.get sp).active with
  | none => rw [endOrder_of_none s sp h]; exact .refl s
  | some i =>
    rw [endOrder_of_some s sp h]
    exact (((tells_endSlot s sp i _).trans (tells_pushEvent _ _ _)).trans (tells_updFc _ id id)).trans
      (tells_updSc _)

theorem elsewhere_endOrder (n : EndNotice) : Elsewhere sp s (s.endOrder sp n) := by
  cases h : (s.sc.get sp).active with
  | none => rw [endOrder_of_none s sp h]; exact {}
  | some i =>
    rw [endOrder_of_some s sp h]
    exact { sc := PerSpout.get_set_of_ne _ _ }

/-- What an order's end leaves at its spout: all but the active order. -/
theorem endOrder_at (n : EndNotice) :
    (s.endOrder sp n).sc.get sp = { s.sc.get sp with active := none } ∧ (s.endOrder sp n).fa = s.fa ∧
      (s.endOrder sp n).lwu = s.lwu := by
  cases h : (s.sc.get sp).active with
  | none => rw [endOrder_of_none s sp h]; exact ⟨by rw [← h], rfl, rfl⟩
  | some i => rw [endOrder_of_some s sp h]; exact ⟨by simp, by simp, by simp⟩

/-! ## The return to IDLE (R103, R125) -/

/-- The spout in IDLE before the lane is told. -/
def idled (s : State) (sp : Spout) : State :=
  (((s.outputsOff sp).releaseGrant sp).updSc sp fun c => { c with stage := none, deadline := none }).setSpoutState sp
    .idle

theorem enterIdle_eq_idled : s.enterIdle sp = (idled s sp).laneLeft sp.lane := rfl

theorem acts_idled : Acts sp s (idled s sp) :=
  (((acts_outputsOff s sp).trans (acts_releaseGrant _ sp)).trans (acts_updSc _ sp)).trans
    (acts_setSpoutState _ sp .idle)

theorem idled_item :
    (idled s sp).sc.get sp =
      { s.sc.get sp with state := .idle, grantHeld := false, stage := none, deadline := none } := by
  simp [idled, setSpoutState_eq, enters, State.outputsOff, commandOutputs_eq, State.releaseGrant]

theorem idled_fa : (idled s sp).fa = { s.fa with holders := s.fa.holders.set sp false } := by
  simp [idled, setSpoutState_eq, enters, State.outputsOff, commandOutputs_eq, State.releaseGrant]

theorem idled_off :
    (idled s sp).iob.coarseOut.get sp = false ∧ (idled s sp).iob.fineOut.get sp = false ∧
      (idled s sp).iob.aeration.get sp = false := by
  simp [idled, setSpoutState_eq, enters, State.outputsOff, commandOutputs_eq, State.releaseGrant, Iob.recompute]

theorem idled_lwu : (idled s sp).lwu = s.lwu := by
  simp [idled, setSpoutState_eq, enters, State.outputsOff, commandOutputs_eq, State.releaseGrant]

theorem tells_laneLeft (l : Lane) : Tells s (s.laneLeft l) := by
  unfold State.laneLeft
  exact Tells.ite (fun _ => tells_moveWindow s l _) fun _ => .refl s

/-- The notice that a spout has left touches the window and its view alone. -/
theorem laneLeft_rest (l : Lane) :
    (s.laneLeft l).sc = s.sc ∧ (s.laneLeft l).fa = s.fa ∧ (s.laneLeft l).ot = s.ot ∧ (s.laneLeft l).fc = s.fc ∧
      (s.laneLeft l).iob.coarseOut = s.iob.coarseOut ∧ (s.laneLeft l).iob.fineOut = s.iob.fineOut ∧
        (s.laneLeft l).iob.aeration = s.iob.aeration := by
  unfold State.laneLeft
  dsimp only
  split <;> exact ⟨rfl, rfl, rfl, rfl, rfl, rfl, rfl⟩

theorem elsewhere_laneLeft (l : Lane) : Elsewhere sp s (s.laneLeft l) := by
  obtain ⟨sc, fa, _, _, coarse, fine, aeration⟩ := laneLeft_rest s l
  exact ⟨fun q _ => by rw [sc], fun q _ => by rw [fa], fun h => by rw [fa]; exact h, fun q _ => by rw [fa],
    by rw [fa], fun q _ => by rw [coarse], fun q _ => by rw [fine], fun q _ => by rw [aeration]⟩

/-- An OPEN window that the last active spout has left goes to WEIGHING; its claims stay placed (R167). -/
theorem windowsPlaced_laneLeft {l : Lane} (h : ClaimsPlaced none s) (hopen : ∀ m, m ≠ l → OpenServed s m) :
    WindowsPlaced (s.laneLeft l) := by
  rw [windowsPlaced_iff]
  unfold State.laneLeft
  dsimp only
  split
  · next hc =>
    obtain ⟨hw, _⟩ := hc
    obtain ⟨_, hclaims, _, hnone⟩ := h l
    refine ⟨fun m => ?_, fun m => ?_⟩
    · by_cases hm : m = l
      · subst hm
        simp only [State.moveWindow, State.notice_lwu, State.notice_sc, State.updWindow_lwu, State.updWindow_sc,
          PerLane.get_set_self, reduceCtorEq, false_implies, or_self]
        exact ⟨rfl, hclaims, trivial, trivial⟩
      · simpa [State.moveWindow, PerLane.get_set, hm] using h m
    · by_cases hm : m = l
      · subst hm
        simp [OpenServed, State.moveWindow]
      · simpa [OpenServed, State.moveWindow, PerLane.get_set, hm] using hopen m hm
  · next hc =>
    refine ⟨h, fun m => ?_⟩
    by_cases hm : m = l
    · subst hm
      intro hw
      by_contra hne
      have inactive : ∀ p, (s.sc.get (m.spout p)).state.isActive = false :=
        fun p => Bool.eq_false_iff.2 fun hp => hne ⟨p, hp⟩
      exact hc ⟨hw, by simp [State.laneActive, inactive]⟩
    · exact hopen m hm

end

/-- The lanes of other spouts are served as before when one spout changes. -/
theorem openServed_congr {s t : State} {sp : Spout} (hlwu : t.lwu = s.lwu)
    (hsc : ∀ q, q ≠ sp → t.sc.get q = s.sc.get q) {m : Lane} (hm : m ≠ sp.lane) (h : OpenServed s m) :
    OpenServed t m := by
  have hne : ∀ p, m.spout p ≠ sp := fun p he => hm (by rw [← he]; simp)
  simpa only [OpenServed, hlwu, hsc _ (hne _)] using h

/-! ## The orders of one spout -/

/-- The clauses of `OrdersPlaced` for one spout (R62, R63). -/
structure OrdersAt (s : State) (sp : Spout) : Prop where
  depth : (s.ot.queues.get sp).length ≤ 4
  nodup : (s.ot.queues.get sp).Nodup
  queue : ∀ i, i ∈ s.ot.queues.get sp ↔ (s.ot.slot i).state = .queued ∧ (s.ot.slot i).spout = some sp
  active : ∀ i, (s.sc.get sp).active = some i ↔ (s.ot.slot i).state = .active ∧ (s.ot.slot i).spout = some sp
  held : (s.sc.get sp).active.isSome = (s.sc.get sp).state.isActive
  fc : (s.fc.get sp).active = (s.sc.get sp).active
  ended : ∀ i, s.ot.lastEnded.get sp = some i →
    (s.ot.slot i).state.ended = true ∧ (s.ot.slot i).spout = some sp

/-- The clauses of `OrdersPlaced` for one record (R61). -/
def SlotFits (r : SlotRec) : Prop := (r.state = .free ↔ r = .cleared) ∧ (r.state ≠ .free → r.spout ≠ none)

theorem ordersPlaced_iff (s : State) :
    OrdersPlaced s ↔ (∀ sp, OrdersAt s sp) ∧ ∀ i, SlotFits (s.ot.slot i) :=
  ⟨fun ⟨h, k⟩ => ⟨fun sp => let ⟨a1, a2, a3, a4, a5, a6, a7⟩ := h sp; ⟨a1, a2, a3, a4, a5, a6, a7⟩, k⟩,
    fun ⟨h, k⟩ => ⟨fun sp => let ⟨a1, a2, a3, a4, a5, a6, a7⟩ := h sp; ⟨a1, a2, a3, a4, a5, a6, a7⟩, k⟩⟩

/-- A record that is in use fits when it names a spout. -/
theorem SlotFits.of_spout {r : SlotRec} {sp : Spout} (hst : r.state ≠ .free) (hsp : r.spout = some sp) :
    SlotFits r :=
  ⟨⟨fun h => absurd h hst, fun h => by rw [h] at hst; exact absurd rfl hst⟩,
    fun _ => by rw [hsp]; exact Option.some_ne_none sp⟩

@[simp] theorem ended_spout (r : SlotRec) (n : EndNotice) (time : Nat) : (r.ended n time).spout = r.spout := by
  cases n <;> rfl

theorem ended_state (r : SlotRec) (n : EndNotice) (time : Nat) :
    (r.ended n time).state.ended = true ∧ (r.ended n time).state ≠ .free ∧ (r.ended n time).state ≠ .queued ∧
      (r.ended n time).state ≠ .active := by
  cases n <;> simp [SlotRec.ended, SlotState.ended]

/-- The active slot of a spout ends, and its spout is in IDLE (R70, R71, R103). -/
theorem ordersPlaced_of_end {s t : State} {sp : Spout} {i : Fin 16} {r : SlotRec} (h : OrdersPlaced s)
    (hi : (s.sc.get sp).active = some i)
    (hot : t.ot = { s.ot.setSlot i r with lastEnded := s.ot.lastEnded.set sp (some i) })
    (hr : r.state.ended = true ∧ r.state ≠ .free ∧ r.state ≠ .queued ∧ r.state ≠ .active)
    (hspout : r.spout = (s.ot.slot i).spout)
    (hfc : (t.fc.get sp).active = none) (hfc' : ∀ q, q ≠ sp → (t.fc.get q).active = (s.fc.get q).active)
    (hsc : (t.sc.get sp).active = none) (hst : (t.sc.get sp).state = .idle)
    (hsc' : ∀ q, q ≠ sp → t.sc.get q = s.sc.get q) : OrdersPlaced t := by
  rw [ordersPlaced_iff] at h ⊢
  obtain ⟨hat, hfits⟩ := h
  obtain ⟨active, spout⟩ := ((hat sp).active i).1 hi
  have slot : ∀ j, t.ot.slot j = if j = i then r else s.ot.slot j := fun j => by
    rw [hot]; exact slot_setSlot s.ot i j r
  have queues : t.ot.queues = s.ot.queues := by rw [hot]; rfl
  have queue : ∀ q j, j ∈ t.ot.queues.get q ↔ (t.ot.slot j).state = .queued ∧ (t.ot.slot j).spout = some q := by
    intro q j
    rw [queues, (hat q).queue j, slot j]
    by_cases hj : j = i
    · simp [hj, active, hr]
    · simp [hj]
  refine ⟨forall_of_elsewhere sp ?_ fun q hq => ?_, fun j => ?_⟩
  · refine ⟨queues ▸ (hat sp).depth, queues ▸ (hat sp).nodup, queue sp, fun j => ?_, by rw [hsc, hst]; rfl,
      by rw [hfc, hsc], fun j hj => ?_⟩
    · rw [hsc, slot j]
      by_cases hj : j = i
      · simp [hj, hr]
      · have hne : ¬ ((s.ot.slot j).state = .active ∧ (s.ot.slot j).spout = some sp) := fun ha =>
          hj (Option.some.inj (((hat sp).active j).2 ha |>.symm.trans hi))
        simp only [hj, if_false, hne, reduceCtorEq]
    · have hji : j = i := by simpa [hot, eq_comm] using hj
      rw [slot j, if_pos hji]
      exact ⟨hr.1, hspout.trans spout⟩
  · have hqi : some sp ≠ some q := fun e => hq (Option.some.inj e).symm
    refine ⟨queues ▸ (hat q).depth, queues ▸ (hat q).nodup, queue q, fun j => ?_, ?_, ?_, fun j hj => ?_⟩
    · rw [hsc' q hq, (hat q).active j, slot j]
      by_cases hj : j = i
      · simp [hj, hr, spout, hqi]
      · simp [hj]
    · rw [hsc' q hq]; exact (hat q).held
    · rw [hfc' q hq, hsc' q hq]; exact (hat q).fc
    · have hj' : s.ot.lastEnded.get q = some j := by simpa [hot, PerSpout.get_set, hq] using hj
      obtain ⟨hended, hsp⟩ := (hat q).ended j hj'
      have hji : j ≠ i := fun e => by rw [e, active] at hended; cases hended
      rw [slot j, if_neg hji]
      exact ⟨hended, hsp⟩
  · rw [slot j]
    split
    · exact .of_spout hr.2.1 (hspout.trans spout)
    · exact hfits j

/-- An order that has ended is at home in its slot and in its spout's reference to it (R70, R71). -/
theorem ordersPlaced_ended {s : State} {sp : Spout} (n : EndNotice) (h : OrdersPlaced s) :
    OrdersPlaced ((s.endOrder sp n).enterIdle sp) := by
  rw [enterIdle_eq_idled]
  obtain ⟨hsc, _, hot, hfc, _⟩ := laneLeft_rest (idled (s.endOrder sp n) sp) sp.lane
  have acts := acts_idled (s.endOrder sp n) sp
  have hitem := idled_item (s.endOrder sp n) sp
  cases hi : (s.sc.get sp).active with
  | none =>
    rw [endOrder_of_none s sp hi] at acts hitem hsc hot hfc ⊢
    refine ordersPlaced_congr (.of_eq (by rw [hot]; rfl)) (by rw [hot]; rfl) (by rw [hot]; rfl)
      (fun q => by rw [hsc]; exact acts.active_all q) (forall_of_elsewhere sp ?_ fun q hq => ?_)
      (fun q => by rw [hfc]; exact acts.fcActive q) h
    · obtain ⟨_, _, _, _, held, _⟩ := h.1 sp
      rw [hsc, hitem, ← held, hi]
      rfl
    · rw [hsc, acts.sc q hq]
  | some i =>
    rw [endOrder_of_some s sp hi] at acts hitem hsc hot hfc ⊢
    refine ordersPlaced_of_end h hi (r := (s.ot.slot i).ended n s.msTime) (by rw [hot]; rfl)
      (ended_state _ n _) (ended_spout _ n _) ?_ (fun q hq => ?_) ?_ ?_ fun q hq => ?_
    · rw [hfc, acts.fcActive sp]; simp
    · rw [hfc, acts.fcActive q]; simp [PerSpout.get_set, hq]
    · rw [hsc, hitem]; simp
    · rw [hsc, hitem]
    · rw [hsc, acts.sc q hq]; simp [PerSpout.get_set, hq]

/-- The windows of a lane whose spout has returned to IDLE (R167). -/
theorem windowsPlaced_enterIdle {s : State} {sp : Spout} (h : ClaimsPlaced (some sp) s)
    (hopen : ∀ m, m ≠ sp.lane → OpenServed s m) : WindowsPlaced (s.enterIdle sp) := by
  rw [enterIdle_eq_idled]
  have acts := acts_idled s sp
  refine windowsPlaced_laneLeft _ (fun l => ?_) fun m hm => openServed_congr (idled_lwu s sp) acts.sc hm (hopen m hm)
  obtain ⟨htimer, hclaims, hrest⟩ := h l
  rw [idled_lwu]
  refine ⟨htimer, fun p => (hclaims p).trans ?_, hrest⟩
  by_cases hp : l.spout p = sp
  · simp [hp, idled_item]
  · simp [hp, acts.sc _ hp]

/-! ## The end of a load -/

/-- Since s the cause has been gathered and the waits of the spout withdrawn; its order ends and it returns to IDLE. -/
theorem Work.of_ended {s u : State} {sp : Spout} (told : Tells s u) (rest : Elsewhere sp s u)
    (hreq : FeedPlaces s → sp ∉ u.fa.requests) (horders : OrdersPlaced s → OrdersPlaced u)
    (hcause : FeedPlaces s → StagedIn (s.sc.get sp) → (u.sc.get sp).cause = none)
    (hclaims : FeedPlaces s → WindowsPlaced s → ClaimsPlaced (some sp) u)
    (hopen : WindowsPlaced s → ∀ m, m ≠ sp.lane → OpenServed u m) (n : EndNotice) :
    Work s ((u.endOrder sp n).enterIdle sp) := by
  obtain ⟨eItem, eFa, eLwu⟩ := endOrder_at u sp n
  have eRest := elsewhere_endOrder u sp n
  have idles := acts_idled (u.endOrder sp n) sp
  obtain ⟨lSc, lFa, _, _, lCoarse, lFine, lAeration⟩ := laneLeft_rest (idled (u.endOrder sp n) sp) sp.lane
  obtain ⟨coarse, fine, aeration⟩ := idled_off (u.endOrder sp n) sp
  have item : (((u.endOrder sp n).enterIdle sp).sc.get sp) =
      { u.sc.get sp with state := .idle, active := none, grantHeld := false, stage := none, deadline := none } := by
    rw [enterIdle_eq_idled, lSc, idled_item, eItem]
  have fa : ((u.endOrder sp n).enterIdle sp).fa = { u.fa with holders := u.fa.holders.set sp false } := by
    rw [enterIdle_eq_idled, lFa, idled_fa, eFa]
  refine ⟨.of_elsewhere
    (((told.trans (tells_endOrder u sp n)).trans idles.toTells).trans (tells_laneLeft _ _))
    (((rest.trans eRest).trans idles.toElsewhere).trans (elsewhere_laneLeft _ sp _))
    (fun _ => ?_) (fun hf => ?_) (fun _ ho => ordersPlaced_ended n (horders ho)) (fun hf _ hs => ?_),
    fun hf hw => ?_⟩
  · simp only [PermittedAt, item, fa]
    simp [enterIdle_eq_idled, lCoarse, lFine, lAeration, coarse, fine, aeration, SpoutState.isFlowing]
  · simp [FeedPlacedAt, item, fa, hreq hf]
  · simp [StagedIn, item, stageOf, hcause hf hs]
  · refine windowsPlaced_enterIdle (claimsPlaced_congr (fun l => by rw [eLwu]; exact ⟨rfl, rfl, rfl⟩)
      (fun q hq => ?_) (hclaims hf hw)) fun m hm => openServed_congr eLwu eRest.sc hm (hopen hw m hm)
    rw [eRest.sc q fun e => hq (by rw [e])]

end Sys2Proof.Proofs

/-! What every step keeps: the abort causes and the settle decision. -/

namespace Sys2Proof.Proofs

open Sys2Proof.Machine Sys2Proof.Safety Sys2Proof.Laws

/-- What stands at a spout that has gathered a cause and done nothing else. -/
theorem Gathers.role {s t : State} {sp : Spout} (h : Gathers sp s t) :
    (t.sc.get sp).state = (s.sc.get sp).state ∧ (t.sc.get sp).grantHeld = (s.sc.get sp).grantHeld ∧
      (t.sc.get sp).stage = (s.sc.get sp).stage ∧ (t.sc.get sp).deadline = (s.sc.get sp).deadline ∧
      (t.sc.get sp).cause = (s.sc.get sp).cause := by
  obtain ⟨_, _, item⟩ := h.item
  rw [item]
  exact ⟨rfl, rfl, rfl, rfl, rfl⟩

/-- A cause that is gathered where the lockout set may hold a reason, in IDLE or ABORTING (R135, R136). -/
theorem work_of_gathers {s t : State} {sp : Spout} (acts : Acts sp s t) (h : Gathers sp s t)
    (hst : (s.sc.get sp).state = .idle ∨ (s.sc.get sp).state = .aborting) : Work s t := by
  obtain ⟨state, grant, stage, deadline, cause⟩ := h.role
  refine .of_onlyAt acts.toTells acts.toOnlyAt (fun hp => ?_) (fun hf => ?_) (fun _ => by rw [state])
    (fun _ => by rw [state]) fun _ _ hs => ?_
  · simpa only [PermittedAt, h.coarse, h.fine, h.aeration, h.fa, state, grant] using hp sp
  · have hat := ((feedPlaces_iff s).1 hf).2 sp
    rw [FeedPlacedAt, h.fa, state]
    exact ⟨hat.1, hat.2.1, fun _ => hst⟩
  · simpa only [StagedIn, state, stage, deadline, cause] using hs

/-- The abort settle of a spout that runs, or that was suspended (R123). -/
theorem work_abortSettle {s u : State} {sp : Spout} (acts : Acts sp s u)
    (hreq : FeedPlaces s → sp ∉ u.fa.requests)
    (hst : (s.sc.get sp).state.isActive = true ∧ (s.sc.get sp).state ≠ .tare)
    (hcause : StagedIn (s.sc.get sp) → (u.sc.get sp).cause = none) : Work s (u.startSettle sp .aborting) := by
  have settles := acts.trans (acts_startSettle u sp .aborting)
  obtain ⟨coarse, fine, aeration⟩ := startSettle_off u sp .aborting
  refine .of_onlyAt settles.toTells settles.toOnlyAt (fun _ => ?_) (fun hf => ?_) (fun _ => ?_) (fun _ => ?_)
    fun _ _ hs => ?_
  · simp [PermittedAt, coarse, fine, aeration, startSettle_item, startSettle_fa, SpoutState.isFlowing]
  · simp [FeedPlacedAt, startSettle_item, startSettle_fa, hreq hf]
  · rw [startSettle_item]; exact hst.1.symm
  · simp [startSettle_item, hst.2]
  · simp [StagedIn, startSettle_item, stageOf, hcause hs]

section
variable {s : State} {sp : Spout}

/-- A spout that is not in WAIT_FEED or SUSPENDED does not wait (R140). -/
theorem not_mem_requests (hf : FeedPlaces s) (hw : (s.sc.get sp).state ≠ .waitFeed)
    (hs : (s.sc.get sp).state ≠ .suspended) : sp ∉ s.fa.requests := fun hr =>
  ((((feedPlaces_iff s).1 hf).2 sp).1 hr).elim hw hs

/-- A spout that is not SUSPENDED holds no suspension cause. -/
theorem StagedIn.cause_eq_none {c : Sc} (h : StagedIn c) (hst : c.state ≠ .suspended) : c.cause = none := by
  obtain ⟨_, _, hcause⟩ := h
  cases hc : c.cause with
  | none => rfl
  | some x => exact absurd (hcause.1 (by rw [hc]; rfl)) hst

theorem work_abortCause_running (r : AbortReason) (hst : (s.sc.get sp).state.isFlowing = true) :
    Work s ((s.gatherCause sp r).startSettle sp .aborting) := by
  have gathers := gathers_gatherCause s sp r
  have hne : (s.sc.get sp).state ≠ .waitFeed ∧ (s.sc.get sp).state ≠ .suspended ∧ (s.sc.get sp).state ≠ .tare ∧
      (s.sc.get sp).state.isActive = true := by
    cases h : (s.sc.get sp).state <;> simp_all [SpoutState.isFlowing, SpoutState.isActive]
  refine work_abortSettle (acts_gatherCause s sp r) (fun hf => ?_) ⟨hne.2.2.2, hne.2.2.1⟩ fun hs => ?_
  · rw [gathers.fa]; exact not_mem_requests hf hne.1 hne.2.1
  · rw [gathers.role.2.2.2.2]; exact hs.cause_eq_none hne.2.1

theorem work_abortCause_suspended (r : AbortReason) (hst : (s.sc.get sp).state = .suspended) :
    Work s
      ((((s.gatherCause sp r).withdrawFeed sp).updSc sp fun c => { c with cause := none }).startSettle sp
        .aborting) :=
  work_abortSettle (((acts_gatherCause s sp r).trans (acts_withdrawFeed _ sp)).trans (acts_updSc _ sp))
    (fun _ => by simp [State.withdrawFeed]) (by rw [hst]; exact ⟨rfl, by decide⟩) fun _ => by simp

/-- A settle becomes an abort settle with the timer and the deadline it has (R124). -/
theorem work_abortCause_settling (r : AbortReason) (hst : (s.sc.get sp).state = .settle) :
    Work s ((s.gatherCause sp r).setSpoutState sp .aborting) := by
  have gathers := gathers_gatherCause s sp r
  have acts := (acts_gatherCause s sp r).trans (acts_setSpoutState _ sp .aborting)
  obtain ⟨lockout, reasons, item⟩ := gathers.item
  have hitem : ((s.gatherCause sp r).setSpoutState sp .aborting).sc.get sp =
      { s.sc.get sp with lockout, reasons, state := .aborting } := by
    simp [setSpoutState_eq, enters, item]
  refine .of_onlyAt acts.toTells acts.toOnlyAt (fun hp => ?_) (fun hf => ?_) (fun _ => ?_) (fun _ => ?_)
    fun _ _ hs => ?_
  · have hat := hp sp
    rw [hst] at hat
    simpa [PermittedAt, hitem, SpoutState.isFlowing, setSpoutState_eq, enters, Iob.recompute, gathers.fa,
      gathers.coarse, gathers.fine, gathers.aeration, gathers.role.2.1] using hat
  · have hreq := not_mem_requests (sp := sp) hf (by simp [hst]) (by simp [hst])
    have hholder := (((feedPlaces_iff s).1 hf).2 sp).2.1
    rw [hst] at hholder
    simpa [FeedPlacedAt, hitem, setSpoutState_eq, enters, gathers.fa, hreq, SpoutState.isFlowing] using hholder
  · rw [hitem, hst]; rfl
  · simp [hitem, hst]
  · obtain ⟨hstage, hdeadline, hcause⟩ := hs
    rw [hst] at hstage hdeadline hcause
    rw [StagedIn, hitem]
    exact ⟨hstage, by simpa using hdeadline, by simpa using hcause⟩

/-- A placed spout in any state but TARE leaves the claims of its lane as they are when it ends its load. -/
theorem claimsPlaced_some_of_acts {u : State} (acts : Acts sp s u) (hst : (s.sc.get sp).state ≠ .tare)
    (hw : WindowsPlaced s) : ClaimsPlaced (some sp) u :=
  claimsPlaced_congr acts.windows
    (fun q hq => by rw [acts.sc q fun e => hq (by rw [e])])
    (((windowsPlaced_iff s).1 hw).1.of_not_tare hst)

theorem openServed_of_acts {u : State} (acts : Acts sp s u) (hw : WindowsPlaced s) (m : Lane) (hm : m ≠ sp.lane) :
    OpenServed u m := by
  have hne : ∀ p, m.spout p ≠ sp := fun p he => hm (by rw [← he]; simp)
  have hs := ((windowsPlaced_iff s).1 hw).2 m
  simpa only [OpenServed, (acts.windows m).1, acts.sc _ (hne _)] using hs

theorem ordersPlaced_of_acts {u : State} (acts : Acts sp s u)
    (hstate : (u.sc.get sp).state = (s.sc.get sp).state) : OrdersPlaced s → OrdersPlaced u :=
  ordersPlaced_congr acts.slots acts.queues acts.lastEnded acts.active_all
    (forall_of_elsewhere sp (by rw [hstate]) fun q hq => by rw [acts.sc q hq]) acts.fcActive

/-- A load ends in any state but TARE (R103, R125). -/
theorem Acts.work_ended {u : State} (acts : Acts sp s u) (hstate : (u.sc.get sp).state = (s.sc.get sp).state)
    (htare : (s.sc.get sp).state ≠ .tare) (hsusp : (s.sc.get sp).state ≠ .suspended)
    (hreq : FeedPlaces s → sp ∉ u.fa.requests) (hcause : (u.sc.get sp).cause = (s.sc.get sp).cause)
    (n : EndNotice) : Work s ((u.endOrder sp n).enterIdle sp) :=
  .of_ended acts.toTells acts.toElsewhere hreq (ordersPlaced_of_acts acts hstate)
    (fun _ hs => by rw [hcause]; exact hs.cause_eq_none hsusp)
    (fun _ => claimsPlaced_some_of_acts acts htare) (openServed_of_acts acts) n

theorem work_abortCause_waiting (r : AbortReason) (hst : (s.sc.get sp).state = .waitFeed) :
    Work s ((((s.gatherCause sp r).setStage sp none).withdrawFeed sp).endAborted sp) := by
  have gathers := gathers_gatherCause s sp r
  refine Acts.work_ended
    (((acts_gatherCause s sp r).trans (acts_setStage _ sp none)).trans (acts_withdrawFeed _ sp))
    ?_ (by simp [hst]) (by simp [hst]) (fun _ => by simp [State.withdrawFeed]) ?_ _
  · simpa [State.withdrawFeed] using gathers.role.1
  · simpa [State.withdrawFeed] using gathers.role.2.2.2.2

/-- A claim that is withdrawn leaves the other claims of the lane placed (R165). -/
theorem claimsPlaced_withdrawClaim (h : ClaimsPlaced none s) : ClaimsPlaced (some sp) (s.withdrawClaim sp) := by
  have side : ∀ p, sp.lane.spout p = sp ↔ p = sp.side := by intro p; cases sp <;> cases p <;> decide
  have other : ∀ m, m ≠ sp.lane → ∀ p, m.spout p ≠ sp := fun m hm p he => hm (by rw [← he]; simp)
  obtain ⟨htimer, hclaims, htaring, hnone⟩ := h sp.lane
  have claims : ∀ p, ((s.lwu.get sp.lane).window.claims.set sp.side false).get p = true ↔
      (s.sc.get (sp.lane.spout p)).state = .tare ∧ some (sp.lane.spout p) ≠ some sp := by
    intro p
    rw [PerSide.get_set]
    by_cases hp : p = sp.side
    · simp [hp]
    · simpa [hp, side] using hclaims p
  have kept : ∀ m, m ≠ sp.lane → ∀ p, ((s.lwu.get m).window.claims.get p = true ↔
      (s.sc.get (m.spout p)).state = .tare ∧ some (m.spout p) ≠ some sp) := by
    intro m hm p
    simpa [other m hm p] using (h m).2.1 p
  rw [withdrawClaim_eq]
  unfold claimWithdrawn
  dsimp only
  split
  · next hc =>
    obtain ⟨_, hlower, hupper⟩ := hc
    have empty : ∀ p, ((s.lwu.get sp.lane).window.claims.set sp.side false).get p = false := by
      intro p; cases p
      · exact hlower
      · exact hupper
    intro m
    by_cases hm : m = sp.lane
    · subst hm
      simp only [State.notice_lwu, State.notice_sc, PerLane.get_set_self]
      exact ⟨rfl, claims, by simp, fun _ => empty⟩
    · simp only [State.notice_lwu, State.notice_sc, PerLane.get_set, if_neg hm]
      exact ⟨(h m).1, kept m hm, (h m).2.2⟩
  · next hc =>
    intro m
    by_cases hm : m = sp.lane
    · subst hm
      simp only [PerLane.get_set_self]
      refine ⟨htimer, claims, fun ht => ?_, fun hst p => ?_⟩
      · by_contra hno
        rw [not_exists] at hno
        exact hc ⟨ht, Bool.eq_false_iff.2 (hno .lower), Bool.eq_false_iff.2 (hno .upper)⟩
      · rw [PerSide.get_set]
        split
        · rfl
        · exact hnone hst p
    · simp only [PerLane.get_set, if_neg hm]
      exact ⟨(h m).1, kept m hm, (h m).2.2⟩

theorem tells_withdrawClaim (u : State) : Tells u (u.withdrawClaim sp) := by
  unfold State.withdrawClaim
  exact (tells_updWindow u).trans (Tells.ite (fun _ => tells_moveWindow _ _ _) fun _ => .refl _)

/-- A claim that is withdrawn touches the window and its view alone. -/
theorem withdrawClaim_rest (u : State) :
    (u.withdrawClaim sp).sc = u.sc ∧ (u.withdrawClaim sp).fa = u.fa ∧ (u.withdrawClaim sp).ot = u.ot ∧
      (u.withdrawClaim sp).fc = u.fc ∧ (u.withdrawClaim sp).iob.coarseOut = u.iob.coarseOut ∧
        (u.withdrawClaim sp).iob.fineOut = u.iob.fineOut ∧ (u.withdrawClaim sp).iob.aeration = u.iob.aeration ∧
          ∀ m, m ≠ sp.lane → (u.withdrawClaim sp).lwu.get m = u.lwu.get m := by
  rw [withdrawClaim_eq]
  unfold claimWithdrawn
  dsimp only
  split <;> exact ⟨rfl, rfl, rfl, rfl, rfl, rfl, rfl, fun m hm => by simp [PerLane.get_set, hm]⟩

theorem elsewhere_withdrawClaim (u : State) : Elsewhere sp u (u.withdrawClaim sp) := by
  obtain ⟨sc, fa, _, _, coarse, fine, aeration, _⟩ := withdrawClaim_rest (sp := sp) u
  exact ⟨fun q _ => by rw [sc], fun q _ => by rw [fa], fun h => by rw [fa]; exact h, fun q _ => by rw [fa],
    by rw [fa], fun q _ => by rw [coarse], fun q _ => by rw [fine], fun q _ => by rw [aeration]⟩

theorem work_abortCause_taring (r : AbortReason) (hst : (s.sc.get sp).state = .tare) :
    Work s (((s.gatherCause sp r).withdrawClaim sp).endAborted sp) := by
  have gathers := gathers_gatherCause s sp r
  have acts := acts_gatherCause s sp r
  obtain ⟨sc, fa, ot, fc, _, _, _, lwu⟩ := withdrawClaim_rest (sp := sp) (s.gatherCause sp r)
  have state : ∀ q, ((s.gatherCause sp r).sc.get q).state = (s.sc.get q).state :=
    forall_of_elsewhere sp gathers.role.1 fun q hq => by rw [acts.sc q hq]
  refine Work.of_ended (acts.toTells.trans (tells_withdrawClaim _))
    (acts.toElsewhere.trans (elsewhere_withdrawClaim _)) (fun hf => ?_) (fun ho => ?_) (fun _ hs => ?_)
    (fun _ hw => ?_) (fun hw m hm => ?_) _
  · rw [fa, gathers.fa]; exact not_mem_requests hf (by simp [hst]) (by simp [hst])
  · exact ordersPlaced_congr (.of_eq (by rw [ot])) (by rw [ot]) (by rw [ot]) (fun _ => by rw [sc])
      (fun _ => by rw [sc]) (fun _ => by rw [fc]) (ordersPlaced_of_acts acts gathers.role.1 ho)
  · rw [sc, gathers.role.2.2.2.2]; exact hs.cause_eq_none (by simp [hst])
  · exact claimsPlaced_withdrawClaim
      (claimsPlaced_congr acts.windows (fun q _ => by rw [state]) ((windowsPlaced_iff s).1 hw).1)
  · have served := openServed_of_acts acts hw m hm
    simpa only [OpenServed, sc, lwu m hm] using served

/-! ## The abort causes (R120, R122 to R124, R126, R127) -/

theorem work_abortCause (s : State) (sp : Spout) (r : AbortReason) : Work s (s.abortCause sp r) := by
  unfold State.abortCause
  split
  case h_1 hst =>
    exact Work.ite (fun _ => work_of_gathers (acts_lockoutCause s sp r) (gathers_lockoutCause s sp r) (.inl hst))
      fun _ => .refl s
  case h_2 hst => exact work_abortCause_taring r hst
  case h_3 hst => exact work_abortCause_waiting r hst
  case h_4 hst => exact work_abortCause_running r (by rw [hst]; rfl)
  case h_5 hst => exact work_abortCause_running r (by rw [hst]; rfl)
  case h_6 hst => exact work_abortCause_running r (by rw [hst]; rfl)
  case h_7 hst => exact work_abortCause_suspended r hst
  case h_8 hst => exact work_abortCause_settling r hst
  case h_9 hst => exact work_of_gathers (acts_gatherCause s sp r) (gathers_gatherCause s sp r) (.inr hst)

/-! ## The settle decision (R100 to R103, R125) -/

/-- L as a learning step stores it lies in its range (R20, R37). -/
theorem clampInt_mem {lo hi v : Int} (h : lo ≤ hi) : lo ≤ clampInt lo hi v ∧ clampInt lo hi v ≤ hi := by
  unfold clampInt
  omega

theorem acts_learn (v : Int) : Acts sp s (s.updFc sp fun f => f.setCorr (s.params.get sp).lmax v) where
  toTells := tells_updFc s id fun ⟨hlo, hhi, _⟩ =>
    ⟨hlo, hhi, clampInt_mem (by omega)⟩
  fcActive := fcActive_set rfl

theorem work_normalEnd (hst : (s.sc.get sp).state = .settle) : Work s (s.normalEnd sp) := by
  have hreq : FeedPlaces s → sp ∉ s.fa.requests := fun hf => not_mem_requests hf (by simp [hst]) (by simp [hst])
  unfold State.normalEnd
  split
  · next hnone =>
    have ended := Acts.work_ended (n := .abort .empty) (.refl sp s) rfl (by simp [hst]) (by simp [hst]) hreq rfl
    rwa [endOrder_of_none s sp hnone] at ended
  · dsimp only
    split
    · exact Acts.work_ended (acts_learn _) rfl (by simp [hst]) (by simp [hst]) hreq rfl _
    · exact Acts.work_ended (.refl sp s) rfl (by simp [hst]) (by simp [hst]) hreq rfl _

/-- The end of an abort settle, with the leak gathered or not (R125). -/
theorem work_endAborted_settled {u : State} (acts : Acts sp s u) (hstate : (u.sc.get sp).state = (s.sc.get sp).state)
    (hfa : u.fa = s.fa) (hcause : (u.sc.get sp).cause = (s.sc.get sp).cause)
    (hst : (s.sc.get sp).state = .settle ∨ (s.sc.get sp).state = .aborting) : Work s (u.endAborted sp) := by
  refine Acts.work_ended acts hstate ?_ ?_ (fun hf => ?_) hcause _
  · rcases hst with h | h <;> simp [h]
  · rcases hst with h | h <;> simp [h]
  · rw [hfa]; exact not_mem_requests hf (by rcases hst with h | h <;> simp [h]) (by rcases hst with h | h <;> simp [h])

theorem work_settleDecision (hst : (s.sc.get sp).state = .settle ∨ (s.sc.get sp).state = .aborting)
    (hname : (s.sc.get sp).stage.map (·.name) = some .settle) : Work s (s.settleDecision sp) := by
  have leaks := gathers_gatherCause s sp .gateLeak
  have leak : Work s ((s.gatherCause sp .gateLeak).endAborted sp) :=
    work_endAborted_settled (acts_gatherCause s sp .gateLeak) leaks.role.1 leaks.fa leaks.role.2.2.2.2 hst
  unfold State.settleDecision
  dsimp only
  split
  · exact Work.ite (fun _ => work_endAborted_settled (.refl sp s) rfl rfl rfl hst) fun hne =>
      work_normalEnd (hst.resolve_right hne)
  · split
    · next d hd =>
      refine Work.ite (fun _ => ?_) fun _ => leak
      refine .of_samePlaces (tells_setStage s sp _) { role := fun q => ?_ }
      by_cases hq : q = sp
      · subst hq
        simp [SameRole, hname]
      · simpa [PerSpout.get_set, hq] using SameRole.refl (s.sc.get q)
    · exact leak

end

end Sys2Proof.Proofs

/-! What every step keeps: the inputs, the gates, the feed inputs and the sensor lines. -/

namespace Sys2Proof.Proofs

open Sys2Proof.Machine Sys2Proof.Safety Sys2Proof.Laws

/-! ## Operations that place nothing -/

section
variable (s : State)

theorem work_pushEvent (src : EventSource) (b : EventBody) : Work s (s.pushEvent src b) :=
  .of_samePlaces (tells_pushEvent s src b) {}

theorem work_updSlr {sp : Spout} {f : Slr → Slr}
    (h : SensorFramed (s.slr.get sp) → SensorFramed (f (s.slr.get sp))) : Work s (s.updSlr sp f) :=
  .of_samePlaces (tells_updSlr s h) {}

theorem work_updFc {sp : Spout} {f : Fc → Fc}
    (hflow : FlowIn (s.params.get sp).w (s.fc.get sp) → FlowIn (s.params.get sp).w (f (s.fc.get sp)) := by exact id)
    (hcal : CalibrationIn (s.params.get sp).lmax (s.fc.get sp).span (s.fc.get sp).corr →
      CalibrationIn (s.params.get sp).lmax (f (s.fc.get sp)).span (f (s.fc.get sp)).corr := by exact id)
    (hactive : (f (s.fc.get sp)).active = (s.fc.get sp).active := by rfl) : Work s (s.updFc sp f) :=
  .of_samePlaces (tells_updFc s hflow hcal) { fcActive := fcActive_set hactive }

theorem work_updSc {sp : Spout} {f : Sc → Sc} (h : SameRole (s.sc.get sp) (f (s.sc.get sp))) :
    Work s (s.updSc sp f) := by
  have ⟨hstate, _, _, hlockout, _⟩ := h
  exact .of_samePlaces (tells_updSc s hstate hlockout)
    { role := PerSpout.forall_get_set (p := fun q => SameRole (s.sc.get q)) (fun q => .refl (s.sc.get q)) h }

theorem work_updCs {f : Cs → Cs}
    (h : CalibrationRanges s → ItemsCalibrated (f s.cs).image.items ∧
      ∀ part copy limit, (f s.cs).store = .writing part copy limit → ItemsCalibrated copy) : Work s (s.updCs f) :=
  .of_samePlaces (tells_updCs s h) {}

theorem work_setInput (i : InputId) (v : Input) : Work s (s.setInput i v) :=
  .of_samePlaces (tells_setInput s i v) (by cases i <;> exact {})

theorem work_setGate {sp : Spout} {g : Gate} {v : GateSup} (htimed : GateTimed (s.gate sp g) → GateTimed v)
    (hopen : commandedOpen v.state = commandedOpen (s.gate sp g).state) : Work s (s.setGate sp g v) :=
  .of_samePlaces (tells_setGate s htimed hopen) {}

/-- A change of a lane's items that keeps what places its window. -/
theorem work_updLwu {l : Lane} {f : Lwu → Lwu}
    (hstate : (f (s.lwu.get l)).window.state = (s.lwu.get l).window.state := by rfl)
    (hclaims : (f (s.lwu.get l)).window.claims = (s.lwu.get l).window.claims := by rfl)
    (htimer : (f (s.lwu.get l)).window.timer.map (·.name) = (s.lwu.get l).window.timer.map (·.name) := by rfl)
    (hframed : BridgeFramed (s.lwu.get l) → BridgeFramed (f (s.lwu.get l)) := by exact id) :
    Work s (s.updLwu l f) :=
  .of_samePlaces (tells_updLwu s hstate hframed) { windows := windowsKept_set hstate hclaims htimer }

/-- What a window gathers does not place it. -/
theorem work_gather (sp : Spout) (f : Contribution → Contribution) : Work s (s.gather sp f) := by
  have acts := acts_gather s sp f sp
  exact .of_samePlaces acts.toTells { windows := acts.windows }

/-! ## Gates and inputs (R42 to R45, R52, R53, R120) -/

/-- What a settled switch or an expired travel timer makes of a gate: its timer follows its state, and it stays commanded as
it was. -/
def GateMoves (g : GateSup) (out : GateSup × Option GateFaultKind) : Prop :=
  (GateTimed g → GateTimed out.1) ∧ commandedOpen out.1.state = commandedOpen g.state

theorem gateMoves_settle (level : Level) (g : GateSup) : GateMoves g (g.settle level) := by
  obtain ⟨state, timer⟩ := g
  cases level <;> cases state <;> simp [GateMoves, GateSup.settle, commandedOpen, GateTimed]

theorem gateMoves_expire (g : GateSup) : GateMoves g g.expire := by
  obtain ⟨state, timer⟩ := g
  cases state <;> simp [GateMoves, GateSup.expire, commandedOpen, GateTimed]

theorem work_gateOutcome {sp : Spout} {g : Gate} {out : GateSup × Option GateFaultKind}
    (h : GateMoves (s.gate sp g) out) : Work s (s.gateOutcome sp g out) := by
  have moved : Work s (s.setGate sp g out.1) := work_setGate s h.1 h.2
  unfold State.gateOutcome
  dsimp only
  split
  · exact moved
  · exact moved.trans (work_abortCause _ sp .gateFault)

theorem sameRole_setView (c : Sc) (k : SpoutInput) (v : Level) : SameRole c (c.setView k v) := by
  cases k <;> exact .refl _

theorem work_scNotice (sp : Spout) (k : SpoutInput) (level : Level) : Work s (s.scNotice sp k level) := by
  unfold State.scNotice
  refine Work.trans ?_ (work_updSc _ (sameRole_setView _ k level))
  refine Work.ite (fun _ => .refl s) fun _ => ?_
  split
  · exact .refl s
  · exact work_abortCause s sp _

theorem work_updTracking {sp : Spout} {f : Fc → Fc}
    (hflow : FlowIn (s.params.get sp).w (s.fc.get sp) → FlowIn (s.params.get sp).w (f (s.fc.get sp)) := by exact id)
    (hcal : CalibrationIn (s.params.get sp).lmax (s.fc.get sp).span (s.fc.get sp).corr →
      CalibrationIn (s.params.get sp).lmax (f (s.fc.get sp)).span (f (s.fc.get sp)).corr := by exact id)
    (hactive : (f (s.fc.get sp)).active = (s.fc.get sp).active := by rfl) : Work s (s.updTracking sp f) :=
  work_updFc s hflow hcal hactive

theorem work_switchSettled {sp : Spout} {g : Gate} (level : Level) : Work s (s.switchSettled sp g level) :=
  work_gateOutcome s (gateMoves_settle level _)

theorem work_changeNotice (i : InputId) (level : Level) : Work s (s.changeNotice i level) := by
  unfold State.changeNotice
  split
  · exact (work_updTracking s).trans (work_switchSettled _ level)
  · exact (work_updTracking s).trans (work_switchSettled _ level)
  · exact work_scNotice s _ _ level
  · exact work_feedNotice s
  · exact work_feedNotice s

theorem work_settleInput (i : InputId) : Work s (s.settleInput i) := by
  unfold State.settleInput
  dsimp only
  refine Work.ite (fun _ => work_setInput s i _) fun _ => Work.ite (fun _ => ?_) fun _ => ?_
  · exact (work_setInput s i _).trans (work_changeNotice _ i _)
  · refine Work.trans ?_ (work_changeNotice _ i _)
    exact Work.trans (work_setInput s i _) (Work.ite (fun _ => work_pushEvent _ _ _) fun _ => .refl _)

theorem work_rawChange (i : InputId) (active : Bool) : Work s (s.rawChange i active) := by
  unfold State.rawChange
  refine Work.ite (fun _ => work_setInput s i _) fun _ => Work.ite (fun _ => ?_) fun _ => work_setInput s i _
  exact (work_setInput s i _).trans (work_settleInput _ i)

/-! ## Flow (R22 to R32) -/

theorem length_keepLast_le {α : Type} (n : Nat) (xs : List α) : (keepLast n xs).length ≤ n := by
  rw [keepLast, List.length_drop]
  omega

theorem roundedMean_le {xs : List Nat} {m : Nat} (h : ∀ x ∈ xs, x ≤ m) : roundedMean xs ≤ m := by
  have hsum : xs.sum ≤ xs.length * m := by simpa using List.sum_le_card_nsmul xs m h
  unfold roundedMean
  rcases Nat.eq_zero_or_pos xs.length with h0 | hpos
  · simp [h0]
  · rw [← Nat.lt_succ_iff, Nat.div_lt_iff_lt_mul hpos, Nat.succ_mul, Nat.mul_comm m]
    omega

/-- A flow in its range that is entered leaves the flow items in theirs (R25, R26). -/
theorem FlowIn.enter {w q r : Nat} {f : Fc} (h : FlowIn w f) (hq : q ≤ 200000) :
    FlowIn w { f.enter w q with residue := r % 1000 } := by
  obtain ⟨_, hle, _, _, hhist⟩ := h
  refine ⟨length_keepLast_le w _, fun x hx => ?_, rfl, Nat.mod_lt _ (by decide), hhist⟩
  rcases List.mem_append.1 (List.mem_of_mem_drop hx) with hx | hx
  · exact hle x hx
  · rw [List.mem_singleton.1 hx]; exact hq

theorem work_integrate {sp : Spout} {q : Nat}
    (hq : FlowIn (s.params.get sp).w (s.fc.get sp) → q ≤ 200000) (sub overr : Bool) :
    Work s (s.integrate sp q sub overr) := by
  unfold State.integrate
  dsimp only
  refine Work.trans ?_ (work_gather _ sp _)
  have entered := work_updFc s (sp := sp)
    (f := fun _ =>
      { (s.fc.get sp).enter (s.params.get sp).w q with
        residue := ((s.fc.get sp).residue + 10 * q) % 1000 }) (fun h => h.enter (hq h))
  refine entered.trans ?_
  split
  · next i hi =>
    exact .of_samePlaces (tells_updSlot _ i _) { slots := slotsKept_set ⟨sp, .inr (by simpa using hi)⟩ rfl rfl }
  · exact work_updFc _

theorem work_fcSample (sp : Spout) (x : RawSample) : Work s (s.fcSample sp x) := by
  unfold State.fcSample
  refine (work_updFc s fun ⟨hlen, hle, hmean, hres, _⟩ => ⟨hlen, hle, hmean, hres, length_keepLast_le 16 _⟩).trans
    (work_integrate _ (fun _ => Nat.min_le_right _ _) _ _)

theorem work_fcSubstitute (sp : Spout) : Work s (s.fcSubstitute sp) :=
  work_integrate s (fun ⟨_, hle, hmean, _⟩ => hmean ▸ roundedMean_le hle) true false

theorem work_fcLineLost (sp : Spout) : Work s (s.fcLineLost sp) :=
  work_updTracking s fun ⟨_, _, _, hres, _⟩ => ⟨Nat.zero_le _, by simp, by simp [roundedMean], hres, Nat.zero_le _⟩

theorem work_trackZero (sp : Spout) : Work s (s.trackZero sp) := by
  unfold State.trackZero
  dsimp only
  split
  · exact .refl s
  · refine Work.trans (work_updFc s) (Work.ite (fun _ => .refl _) fun _ => Work.ite (fun _ => ?_) fun _ => ?_)
    · exact (work_updFc _).trans (work_pushEvent _ _ _)
    · exact work_pushEvent _ _ _

/-! ## Sensor lines (R3 to R15) -/

theorem work_deliver (sp : Spout) (x : RawSample) : Work s (s.deliver sp x) := by
  unfold State.deliver
  dsimp only
  have counted : Work s (s.updSlr sp fun r => { r with subRun := 0 }) :=
    work_updSlr s fun ⟨hf, hg, hh, hl, _⟩ => ⟨hf, hg, hh, hl, fun _ => rfl⟩
  exact counted.trans
    (Work.ite (fun _ => (work_fcSample _ sp x).trans (work_sampleReport _ sp)) fun _ => .refl _)

theorem work_deliverAll (sp : Spout) (xs : List RawSample) : Work s (xs.foldl (fun s x => s.deliver sp x) s) :=
  Work.foldl (fun s x => work_deliver s sp x) xs s

theorem work_lineLost (sp : Spout) : Work s (s.lineLost sp) := by
  unfold State.lineLost
  dsimp only
  refine Work.trans ?_ (work_pushEvent _ _ _)
  refine Work.trans ?_ (work_updSc _ (.refl _))
  refine Work.trans ?_ (work_abortCause _ sp .sensorLost)
  refine Work.trans ?_ (work_fcLineLost _ sp)
  exact work_updSlr s fun ⟨hf, _⟩ => ⟨hf, Nat.zero_le _, rfl, fun _ => rfl, fun _ => rfl⟩

/-- A substitution is ordered in LIVE (R9). -/
theorem work_substituteOne {sp : Spout} (h : (s.slr.get sp).line = .live) : Work s (s.substituteOne sp) := by
  unfold State.substituteOne
  dsimp only
  refine Work.trans ?_ (Work.ite (fun _ => work_lineLost _ sp) fun _ => .refl _)
  refine Work.trans (work_updSlr s fun ⟨hf, hg, hh, hl, _⟩ => ?_)
    (Work.ite (fun _ => (work_fcSubstitute _ sp).trans (work_sampleReport _ sp)) fun _ => .refl _)
  exact ⟨hf, hg, hh, hl, fun hlost => absurd (h.symm.trans hlost) (by decide)⟩

theorem work_substitutePair {sp : Spout} (h : (s.slr.get sp).line = .live) : Work s (s.substitutePair sp) :=
  (work_substituteOne s h).trans (Work.ite (fun hlive => work_substituteOne _ hlive) fun _ => .refl _)

theorem SensorFramed.breakRun {r : Slr} (h : SensorFramed r) : SensorFramed r.breakRun := by
  obtain ⟨hf, hg, hh, hl, hsub⟩ := h
  unfold Slr.breakRun
  split
  · exact ⟨hf, Nat.zero_le _, rfl, fun _ => rfl, hsub⟩
  · exact ⟨hf, hg, hh, hl, hsub⟩

theorem work_breakRun (sp : Spout) : Work s (s.updSlr sp Slr.breakRun) := work_updSlr s SensorFramed.breakRun

theorem work_restoreLine (sp : Spout) (xs : List RawSample) : Work s (s.restoreLine sp xs) := by
  unfold State.restoreLine
  dsimp only
  refine Work.trans ?_ (work_deliverAll _ sp _)
  refine Work.trans ?_ (Work.ite (fun _ => work_pushEvent _ _ _) fun _ => .refl _)
  refine Work.trans ?_ (work_updSc _ (.refl _))
  refine Work.trans ?_ (work_updTracking _)
  exact work_updSlr s fun ⟨hf, _⟩ =>
    ⟨hf, Nat.zero_le _, rfl, fun _ => rfl, fun hlost => nomatch hlost⟩

/-- A good frame in LOST is a step of the restore run (R12). -/
theorem work_restoreStep {sp : Spout} {xs : List RawSample} (hlost : (s.slr.get sp).line = .lost)
    (hxs : xs.length = 2) : Work s (s.restoreStep sp xs) := by
  unfold State.restoreStep
  dsimp only
  refine Work.ite (fun _ => work_restoreLine s sp xs) fun hg => work_updSlr s fun ⟨hf, _, hh, _, hsub⟩ => ?_
  have hg : ¬ 3 ≤ (s.slr.get sp).goodRun + 1 := hg
  exact ⟨hf, by dsimp only; omega, by simp only [List.length_append, hh, hxs]; omega,
    fun hlive => absurd (hlost.symm.trans hlive) (by decide), hsub⟩

theorem work_goodFrame (sp : Spout) (bytes : List Byte) : Work s (s.goodFrame sp bytes) := by
  unfold State.goodFrame
  dsimp only
  have taken : Work s (s.updSlr sp fun r => { r with watch := some (s.now + Config.watchFirst), framing := .hunt }) :=
    work_updSlr s fun ⟨_, hrest⟩ => ⟨trivial, hrest⟩
  refine taken.trans ?_
  split
  · exact work_deliverAll _ sp _
  · next h _ => exact work_substitutePair _ h
  · next h _ => exact work_restoreStep _ h rfl
  · exact work_breakRun _ sp

end

/-! ### Framing (R2, R3, R6, R155 to R157) -/

theorem sensorCandidate_iff (b : Byte) : sensorCandidate b = true ↔ 0xA0 ≤ b.toNat ∧ b.toNat ≤ 0xBF := by
  simp only [sensorCandidate, beq_iff_eq, BitVec.toNat_eq, BitVec.extractLsb'_toNat, BitVec.toNat_ofNat,
    Nat.shiftRight_eq_div_pow]
  have := b.isLt
  omega

theorem bridgeCandidate_iff (b : Byte) : bridgeCandidate b = true ↔ 0xC0 ≤ b.toNat ∧ b.toNat ≤ 0xDF := by
  simp only [bridgeCandidate, beq_iff_eq, BitVec.toNat_eq, BitVec.extractLsb'_toNat, BitVec.toNat_ofNat,
    Nat.shiftRight_eq_div_pow]
  have := b.isLt
  omega

/-- The bytes are re-examined from their first header candidate on. -/
theorem reexamined_reexamine {candidate : Byte → Bool} {lo hi : Nat}
    (hc : ∀ b, candidate b = true ↔ lo ≤ b.toNat ∧ b.toNat ≤ hi) (gap : Nat) (bytes : List Byte) :
    Reexamined lo hi bytes gap (reexamine candidate gap bytes) := by
  have outside : ∀ b, candidate b = false → b.toNat < lo ∨ hi < b.toNat := fun b hb => by
    rw [← Bool.not_eq_true, hc] at hb
    omega
  have before : ∀ b ∈ bytes.takeWhile fun b => !candidate b, b.toNat < lo ∨ hi < b.toNat := fun b hb =>
    outside b (by simpa using List.mem_takeWhile_imp hb)
  have split := List.takeWhile_append_dropWhile (p := fun b => !candidate b) (l := bytes)
  unfold reexamine
  cases hd : bytes.dropWhile fun b => !candidate b with
  | nil =>
    rw [hd, List.append_nil] at split
    exact .inl ⟨split ▸ before, rfl⟩
  | cons h after =>
    have head : candidate h = true := by
      have hne : bytes.dropWhile (fun b => !candidate b) ≠ [] := by rw [hd]; exact List.cons_ne_nil _ _
      simpa [hd] using List.head_dropWhile_not (fun b => !candidate b) hne
    exact .inr ⟨_, h, after, by rw [← hd]; exact split.symm, before, ((hc h).1 head).1, ((hc h).1 head).2, rfl⟩

/-- A line that has re-examined fewer bytes than a frame has is framed. -/
theorem framingIn_of_reexamined {lo hi size gap : Nat} {bytes : List Byte} {f : Framing}
    (h : Reexamined lo hi bytes gap f) (hl : bytes.length < size) : FramingIn lo hi size f := by
  rcases h with ⟨_, rfl⟩ | ⟨before, b, after, rfl, _, hlo, hhi, rfl⟩
  · trivial
  · rw [List.length_append] at hl
    exact ⟨by omega, b, after, rfl, hlo, hhi⟩

/-- A byte that starts a frame, or that follows others short of a frame, leaves the line framed (R3, R156). -/
theorem framingIn_collect {lo hi size gap gap' : Nat} {bytes : List Byte} {b : Byte}
    (h : FramingIn lo hi size (.collect bytes gap)) (hl : (bytes ++ [b]).length < size) :
    FramingIn lo hi size (.collect (bytes ++ [b]) gap') := by
  obtain ⟨_, x, rest, rfl, hlo, hhi⟩ := h
  exact ⟨hl, x, rest ++ [b], rfl, hlo, hhi⟩

section
variable (s : State)

theorem SensorFramed.reject {r : Slr} {bytes : List Byte} (hl : bytes.length ≤ 6) (gap : Nat)
    (h : SensorFramed r) : SensorFramed (r.reject bytes gap) := by
  obtain ⟨_, hrest⟩ := h.breakRun
  refine ⟨framingIn_of_reexamined (reexamined_reexamine sensorCandidate_iff gap bytes.tail) ?_, hrest⟩
  rw [List.length_tail]
  omega

theorem work_sensorByte (sp : Spout) (b : Byte) : Work s (s.sensorByte sp b) := by
  unfold State.sensorByte
  split
  · refine Work.ite (fun hb => work_updSlr s fun ⟨_, hrest⟩ => ?_) fun _ => .refl s
    exact ⟨⟨by simp, b, [], rfl, (sensorCandidate_iff b).1 hb⟩, hrest⟩
  · next bytes gap hf =>
    dsimp only
    refine Work.ite (fun hl => work_updSlr s fun ⟨hin, hrest⟩ => ?_) fun _ => Work.ite (fun _ => ?_) fun _ => ?_
    · rw [hf] at hin
      exact ⟨framingIn_collect hin hl, hrest⟩
    · exact work_goodFrame s sp _
    · refine work_updSlr s fun h => h.reject ?_ _
      obtain ⟨hin, _⟩ := h
      rw [hf] at hin
      rw [List.length_append]
      exact hin.1

theorem work_abandonSensor (sp : Spout) : Work s (s.abandonSensor sp) := by
  unfold State.abandonSensor
  split
  · exact .refl s
  · next bytes gap hf =>
    refine work_updSlr s fun h => h.reject ?_ _
    obtain ⟨hin, _⟩ := h
    rw [hf] at hin
    exact hin.1.le

end

end Sys2Proof.Proofs

/-! What every step keeps: the weighbridge lines and the weighing windows. -/

namespace Sys2Proof.Proofs

open Sys2Proof.Machine Sys2Proof.Safety Sys2Proof.Laws

/-! ## Releases (R90, R91, R164) -/

section
variable (s : State) (sp : Spout)

theorem acts_enterWaitFeed : Acts sp s (s.enterWaitFeed sp) :=
  ((acts_setSpoutState s sp .waitFeed).trans (acts_setStage _ sp _)).trans (acts_requestFeed _ sp)

theorem enterWaitFeed_item :
    (s.enterWaitFeed sp).sc.get sp =
      { s.sc.get sp with
        state := .waitFeed, stage := some ⟨.feedWait, s.now + (s.params.get sp).feedWait * 1000⟩ } := by
  simp [State.enterWaitFeed, State.requestFeed, setSpoutState_eq, enters]

/-- WAIT_FEED commands no output and touches no window. -/
theorem enterWaitFeed_rest :
    (s.enterWaitFeed sp).iob.coarseOut = s.iob.coarseOut ∧ (s.enterWaitFeed sp).iob.fineOut = s.iob.fineOut ∧
      (s.enterWaitFeed sp).iob.aeration = s.iob.aeration ∧ (s.enterWaitFeed sp).lwu = s.lwu ∧
      (s.enterWaitFeed sp).fa.holders = s.fa.holders := by
  refine ⟨rfl, rfl, rfl, rfl, ?_⟩
  rw [State.enterWaitFeed, requestFeed_holders]
  rfl

variable {sp} in
/-- A spout that holds no grant enters WAIT_FEED from TARE, or at acceptance (R89, R90). -/
theorem enterWaitFeed_placed (hst : (s.sc.get sp).state = .idle ∨ (s.sc.get sp).state = .tare) :
    (GatePermissions s → PermittedAt (s.enterWaitFeed sp) sp) ∧
      ((s.sc.get sp).lockout = .empty → FeedPlaces s → FeedPlacedAt (s.enterWaitFeed sp) sp) ∧
        (StagedIn (s.sc.get sp) → StagedIn ((s.enterWaitFeed sp).sc.get sp)) := by
  obtain ⟨coarse, fine, aeration, _, holders⟩ := enterWaitFeed_rest s sp
  have item := enterWaitFeed_item s sp
  refine ⟨fun hp => ?_, fun hl hf => ?_, fun hs => ?_⟩
  · have hat := hp sp
    rcases hst with h | h <;>
      simpa [PermittedAt, coarse, fine, aeration, holders, item, h, SpoutState.isFlowing] using hat
  · obtain ⟨_, hholder, _⟩ := ((feedPlaces_iff s).1 hf).2 sp
    have hholder : s.fa.holders.get sp = false := by
      rcases hst with h | h <;> simpa [h, SpoutState.isFlowing] using hholder
    simp [FeedPlacedAt, item, holders, hholder, hl]
  · obtain ⟨_, hdeadline, hcause⟩ := hs
    rw [StagedIn, item]
    refine ⟨rfl, ?_, ?_⟩
    · rcases hst with h | h <;> simpa [h] using hdeadline
    · rcases hst with h | h <;> simpa [h] using hcause

theorem moves_releaseClaim : Moves s (s.releaseClaim sp) := by
  unfold State.releaseClaim
  split
  · next hst =>
    obtain ⟨permitted, feed, staged⟩ := enterWaitFeed_placed s (.inr hst)
    have acts := acts_enterWaitFeed s sp
    refine .of_onlyAt acts.toTells acts.toOnlyAt permitted (fun hf => feed ?_ hf) (fun _ => ?_)
      fun _ _ => staged
    · obtain ⟨_, _, hlockout⟩ := ((feedPlaces_iff s).1 hf).2 sp
      by_contra hne
      simpa [hst] using hlockout hne
    · rw [enterWaitFeed_item, hst]; rfl
  · exact (Work.refl s).toMoves

theorem releaseClaim_lwu : (s.releaseClaim sp).lwu = s.lwu := by
  unfold State.releaseClaim
  split
  · exact (enterWaitFeed_rest s sp).2.2.2.1
  · rfl

theorem releaseClaim_sc_ne {q : Spout} (h : q ≠ sp) : (s.releaseClaim sp).sc.get q = s.sc.get q := by
  unfold State.releaseClaim
  split
  · exact (acts_enterWaitFeed s sp).sc q h
  · rfl

theorem releaseClaim_state :
    ((s.releaseClaim sp).sc.get sp).state =
      if (s.sc.get sp).state = .tare then .waitFeed else (s.sc.get sp).state := by
  unfold State.releaseClaim
  split
  · rw [enterWaitFeed_item]
  · rfl

end

section
variable (s : State) (l : Lane) (claims : PerSide Bool)

theorem moves_releaseClaims : Moves s (s.releaseClaims l claims) := by
  have released : ∀ (u : State) (p : Prop) [Decidable p] sp, Moves u (if p then u.releaseClaim sp else u) := by
    intro u p _ sp
    split
    · exact moves_releaseClaim u sp
    · exact (Work.refl u).toMoves
  exact (released s _ _).trans (released _ _ _)

theorem releaseClaims_lwu : (s.releaseClaims l claims).lwu = s.lwu := by
  unfold State.releaseClaims
  dsimp only
  split <;> split <;> simp only [releaseClaim_lwu]

theorem releaseClaims_sc_of_lane_ne {q : Spout} (h : q.lane ≠ l) :
    (s.releaseClaims l claims).sc.get q = s.sc.get q := by
  have hne : ∀ p, q ≠ l.spout p := fun p he => h (by rw [he, Lane.spout_lane])
  unfold State.releaseClaims
  dsimp only
  split <;> split <;> simp only [releaseClaim_sc_ne _ _ (hne _)]

/-- A claim that is released takes its spout from TARE to WAIT_FEED (R164). -/
theorem releaseClaims_state (p : Side) :
    ((s.releaseClaims l claims).sc.get (l.spout p)).state =
      if claims.get p = true ∧ (s.sc.get (l.spout p)).state = .tare then .waitFeed
      else (s.sc.get (l.spout p)).state := by
  have hne : l.spout .lower ≠ l.spout .upper := by cases l <;> decide
  unfold State.releaseClaims
  cases p <;> dsimp only [PerSide.get] <;> split <;> split <;>
    simp_all [releaseClaim_state, releaseClaim_sc_ne, hne.symm]

end

/-! ## Windows, lane by lane (R161 to R170) -/

/-- The clauses of `WindowsPlaced` for one lane. -/
def WindowAt (s : State) (l : Lane) : Prop :=
  (s.lwu.get l).window.timer.map (·.name) = windowTimerOf (s.lwu.get l).window.state ∧
    (∀ p, (s.lwu.get l).window.claims.get p = true ↔ (s.sc.get (l.spout p)).state = .tare) ∧
    ((s.lwu.get l).window.state = .taring → ∃ p, (s.lwu.get l).window.claims.get p = true) ∧
    ((s.lwu.get l).window.state = .closed ∨ (s.lwu.get l).window.state = .opened →
      ∀ p, (s.lwu.get l).window.claims.get p = false) ∧
    ((s.lwu.get l).window.state = .opened → ∃ p, (s.sc.get (l.spout p)).state.isActive = true)

theorem windowAt_congr {s t : State} {l : Lane} (hlwu : t.lwu.get l = s.lwu.get l)
    (hsc : ∀ p, t.sc.get (l.spout p) = s.sc.get (l.spout p)) (h : WindowAt s l) : WindowAt t l := by
  simpa only [WindowAt, hlwu, hsc] using h

/-- The lanes but one. -/
theorem windowsPlaced_of_lane {s t : State} (l : Lane) (hat : WindowAt t l)
    (hlwu : ∀ m, m ≠ l → t.lwu.get m = s.lwu.get m)
    (hsc : ∀ q : Spout, q.lane ≠ l → t.sc.get q = s.sc.get q) (h : ∀ m, m ≠ l → WindowAt s m) :
    WindowsPlaced t := by
  intro m
  by_cases hm : m = l
  · rw [hm]; exact hat
  · exact windowAt_congr (hlwu m hm) (fun p => hsc _ (by rw [Lane.spout_lane]; exact hm)) (h m hm)

/-- Every claim of a lane is that of a spout in TARE, whatever its window's state; the other lanes' windows are placed. -/
def ClaimsHeld (s : State) (l : Lane) : Prop :=
  (∀ m, m ≠ l → WindowAt s m) ∧
    ∀ p, (s.lwu.get l).window.claims.get p = true ↔ (s.sc.get (l.spout p)).state = .tare

theorem ClaimsHeld.of_windowsPlaced {s : State} {l : Lane} (h : WindowsPlaced s) : ClaimsHeld s l :=
  ⟨fun m _ => h m, (h l).2.1⟩

theorem ClaimsHeld.congr {s t : State} {l : Lane} (hlwu : ∀ m, m ≠ l → t.lwu.get m = s.lwu.get m)
    (hclaims : (t.lwu.get l).window.claims = (s.lwu.get l).window.claims) (hsc : t.sc = s.sc)
    (h : ClaimsHeld s l) : ClaimsHeld t l :=
  ⟨fun m hm => windowAt_congr (hlwu m hm) (fun _ => by rw [hsc]) (h.1 m hm), by rw [hclaims, hsc]; exact h.2⟩

section
variable {s : State} {l : Lane}

theorem moveWindow_lwu_ne (f : Window → Window) (m : Lane) (h : m ≠ l) :
    (s.moveWindow l f).lwu.get m = s.lwu.get m := by
  simp [State.moveWindow, PerLane.get_set, h]

theorem moveWindow_window (f : Window → Window) :
    ((s.moveWindow l f).lwu.get l).window = f (s.lwu.get l).window := by
  simp [State.moveWindow]

/-- A window opened with its claims released: their spouts wait for feed, and so the lane is active (R164, R170). -/
theorem windowsPlaced_opened (h : ClaimsHeld s l) {f : Window → Window}
    (hf : ∀ w, (f w).state = .opened ∧ (f w).timer = none ∧ (f w).claims = ⟨false, false⟩)
    (hsome : ∃ p, (s.lwu.get l).window.claims.get p = true) :
    WindowsPlaced ((s.moveWindow l f).releaseClaims l (s.lwu.get l).window.claims) := by
  have lwu := releaseClaims_lwu (s.moveWindow l f) l (s.lwu.get l).window.claims
  obtain ⟨state, timer, claims⟩ := hf (s.lwu.get l).window
  have state_of : ∀ p, ((((s.moveWindow l f).releaseClaims l (s.lwu.get l).window.claims).sc.get (l.spout p)).state =
      if (s.lwu.get l).window.claims.get p = true then .waitFeed else (s.sc.get (l.spout p)).state) := by
    intro p
    rw [releaseClaims_state]
    have := h.2 p
    by_cases hc : (s.lwu.get l).window.claims.get p = true
    · rw [if_pos hc, if_pos ⟨hc, this.1 hc⟩]
    · rw [if_neg hc, if_neg (fun k => hc k.1)]; rfl
  refine windowsPlaced_of_lane (s := s) l ?_ (fun m hm => by rw [lwu, moveWindow_lwu_ne f m hm])
    (fun q hq => by rw [releaseClaims_sc_of_lane_ne _ _ _ hq]; rfl) h.1
  rw [WindowAt, lwu, moveWindow_window, state, timer, claims]
  refine ⟨rfl, fun p => ?_, fun hc => (nomatch hc), fun _ p => by cases p <;> rfl, fun _ => ?_⟩
  · have none : (⟨false, false⟩ : PerSide Bool).get p = false := by cases p <;> rfl
    rw [none, state_of]
    split
    · simp
    · next hc => simpa using fun ht => hc ((h.2 p).2 ht)
  · obtain ⟨p, hp⟩ := hsome
    exact ⟨p, by rw [state_of, if_pos hp]; rfl⟩

/-- A window moved to a state that its claims permit, its timer with it. -/
theorem windowsPlaced_moved (h : ClaimsHeld s l) {f : Window → Window}
    (hclaims : (f (s.lwu.get l).window).claims = (s.lwu.get l).window.claims)
    (htimer : (f (s.lwu.get l).window).timer.map (·.name) = windowTimerOf (f (s.lwu.get l).window).state)
    (htaring : (f (s.lwu.get l).window).state = .taring → ∃ p, (s.lwu.get l).window.claims.get p = true)
    (hclosed : (f (s.lwu.get l).window).state = .closed → ∀ p, (s.lwu.get l).window.claims.get p = false)
    (hopened : (f (s.lwu.get l).window).state ≠ .opened) : WindowsPlaced (s.moveWindow l f) := by
  refine windowsPlaced_of_lane (s := s) l ?_ (moveWindow_lwu_ne f) (fun _ _ => rfl) h.1
  rw [WindowAt, moveWindow_window, hclaims]
  exact ⟨htimer, h.2, htaring, fun hst => hclosed (hst.resolve_right hopened), fun hst => absurd hst hopened⟩

theorem noClaims_iff (w : Window) : w.noClaims = true ↔ ∀ p, w.claims.get p = false := by
  simp [Window.noClaims, Side.forall_iff, PerSide.get]

theorem windowsPlaced_nextWindow (h : ClaimsHeld s l) : WindowsPlaced (s.nextWindow l) := by
  unfold State.nextWindow
  dsimp only
  split
  · next hnone =>
    exact windowsPlaced_moved h rfl rfl (fun hc => nomatch hc) (fun _ => (noClaims_iff _).1 hnone)
      (fun hc => nomatch hc)
  · next hsome =>
    have hsome : ∃ p, (s.lwu.get l).window.claims.get p = true := by
      simpa [noClaims_iff] using hsome
    split
    · exact windowsPlaced_opened h (fun _ => ⟨rfl, rfl, rfl⟩) hsome
    · exact windowsPlaced_moved h rfl rfl (fun _ => hsome) (fun hc => nomatch hc) (fun hc => nomatch hc)

end

/-! ## The steps of a window (R164, R167 to R170) -/

section
variable (s : State) (l : Lane)

/-- A window changed in what no view and no other block follows. -/
theorem moves_updWindow (f : Window → Window) (hstate : (f (s.lwu.get l).window).state = (s.lwu.get l).window.state) :
    Moves s (s.updWindow l f) where
  toKeeps := keeps_updWindow s l f
  views := (tells_updWindow s hstate).viewsExact rfl
  permitted := id
  feed := id
  orders _ := id
  stages _ _ := id

theorem moves_moveWindow (f : Window → Window) : Moves s (s.moveWindow l f) where
  toKeeps := (tells_moveWindow s l f).toKeeps
  views := (tells_moveWindow s l f).viewsExact rfl
  permitted := id
  feed := id
  orders _ := id
  stages _ _ := id

theorem work_reportResult (r : WeighResult) : Work s (s.reportResult l r) :=
  (work_updLwu s).trans (work_pushEvent _ _ _)

/-- S as it is stored lies in its range (R20). -/
theorem work_setSpan (sp : Spout) (v : Int) : Work s (s.updFc sp fun f => f.setSpan v) := by
  refine work_updFc s id fun ⟨_, _, hcorr⟩ => ?_
  have : 1 ≤ clampInt 1 Config.spanMax v ∧ clampInt 1 Config.spanMax v ≤ Config.spanMax := clampInt_mem (by decide)
  have hmax : Config.spanMax = 1048575 := rfl
  refine ⟨?_, ?_, hcorr⟩ <;> simp only [Fc.setSpan] <;> omega

theorem moves_nextWindow : Moves s (s.nextWindow l) := by
  unfold State.nextWindow
  dsimp only
  split
  · exact moves_moveWindow s l _
  · split
    · exact (moves_moveWindow s l _).trans (moves_releaseClaims _ l _)
    · exact moves_moveWindow s l _

/-- The window with its gross and its timer stopped, judged (R168 to R170). -/
def judged (s : State) (l : Lane) (gross : Option Nat) : State :=
  let s := s.updWindow l fun w => { w with gross := gross, timer := none }
  let u := s.lwu.get l
  let o := u.window.outcome u.params
  let t := if o = .corrected then s.correctSpan l u.window u.params.alpha else (s, none)
  t.1.reportResult l (u.window.result o t.2)

theorem closeWindow_eq_judged (gross : Option Nat) : s.closeWindow l gross = (judged s l gross).nextWindow l := rfl

theorem moves_judged (gross : Option Nat) : Moves s (judged s l gross) := by
  unfold judged
  dsimp only
  refine Moves.trans ?_ (work_reportResult _ l _).toMoves
  refine Moves.trans (moves_updWindow s l (fun w => { w with gross := gross, timer := none }) rfl) ?_
  split
  · exact (work_setSpan _ _ _).toMoves
  · exact (Work.refl _).toMoves

theorem claimsHeld_judged {s : State} {l : Lane} (gross : Option Nat) (h : ClaimsHeld s l) :
    ClaimsHeld (judged s l gross) l := by
  refine h.congr (fun m hm => ?_) ?_ ?_ <;> unfold judged <;> dsimp only <;> split <;>
    simp [State.reportResult, State.correctSpan, PerLane.get_set, *]

theorem work_closeWindow (gross : Option Nat) : Work s (s.closeWindow l gross) where
  toMoves := (moves_judged s l gross).trans (moves_nextWindow _ l)
  windows _ hw := windowsPlaced_nextWindow (claimsHeld_judged gross (.of_windowsPlaced hw))

/-- A window that is TARING opens (R164). -/
theorem work_openWindow (tare : Option Nat)
    (htaring : WindowsPlaced s → (s.lwu.get l).window.state = .taring) : Work s (s.openWindow l tare) where
  toMoves := (moves_moveWindow s l _).trans (moves_releaseClaims _ l _)
  windows _ hw := windowsPlaced_opened (.of_windowsPlaced hw) (fun _ => ⟨rfl, rfl, rfl⟩)
    ((hw l).2.2.1 (htaring hw))

theorem work_stableReading (gross : Nat) : Work s (s.stableReading l gross) := by
  unfold State.stableReading
  split
  · exact .refl s
  · next h => exact work_openWindow s l _ fun _ => h
  · exact .refl s
  · exact work_closeWindow s l _

/-! ## The line (R156 to R160) -/

theorem work_bridgeRestore : Work s (s.bridgeRestore l) := by
  unfold State.bridgeRestore
  dsimp only
  refine Work.ite (fun _ => .refl s) fun hlost => Work.ite (fun _ => ?_) fun hrun => ?_
  · have live : Work s (s.updLwu l fun u => { u with line := .live, restoreRun := 0, firstAcq := true }) :=
      work_updLwu s rfl rfl rfl fun ⟨hf, _, _⟩ => ⟨hf, Nat.zero_le _, fun _ => rfl⟩
    exact live.trans (Work.ite (fun _ => work_pushEvent _ _ _) fun _ => .refl _)
  · have hrun : ¬ 3 ≤ (s.lwu.get l).restoreRun + 1 := hrun
    exact work_updLwu s rfl rfl rfl fun ⟨hf, _, _⟩ => ⟨hf, by dsimp only; omega, fun hl => absurd hl hlost⟩

theorem work_bridgeGood (bytes : List Byte) : Work s (s.bridgeGood l bytes) := by
  unfold State.bridgeGood
  dsimp only
  refine Work.trans ?_ (Work.ite (fun _ => work_stableReading _ l _) fun _ => .refl _)
  refine Work.trans ?_ (work_updLwu _)
  refine Work.trans ?_ (work_bridgeRestore _ l)
  exact work_updLwu s rfl rfl rfl fun ⟨_, hrest⟩ => ⟨trivial, hrest⟩

theorem BridgeFramed.reject {u : Lwu} {bytes : List Byte} (hl : bytes.length ≤ 5) (gap : Nat)
    (h : BridgeFramed u) : BridgeFramed (u.reject bytes gap) := by
  obtain ⟨_, hrun, hlive⟩ := h
  refine ⟨framingIn_of_reexamined (reexamined_reexamine bridgeCandidate_iff gap bytes.tail) ?_, ?_, fun hl => ?_⟩
  · rw [List.length_tail]; omega
  · unfold Lwu.reject; dsimp only; split <;> omega
  · have hl : u.line = .live := hl
    simp [Lwu.reject, hl, hlive hl]

theorem work_rejectBridge {bytes : List Byte} (gap : Nat)
    (hl : BridgeFramed (s.lwu.get l) → bytes.length ≤ 5) : Work s (s.updLwu l fun u => u.reject bytes gap) :=
  work_updLwu s rfl rfl rfl fun h => h.reject (hl h) gap

theorem work_bridgeByte (b : Byte) : Work s (s.bridgeByte l b) := by
  unfold State.bridgeByte
  split
  · refine Work.ite (fun hb => work_updLwu s rfl rfl rfl fun ⟨_, hrest⟩ => ?_) fun _ => .refl s
    exact ⟨⟨by simp, b, [], rfl, (bridgeCandidate_iff b).1 hb⟩, hrest⟩
  · next bytes gap hf =>
    dsimp only
    refine Work.ite (fun hl => work_updLwu s rfl rfl rfl fun ⟨hin, hrest⟩ => ?_) fun _ => Work.ite (fun _ => ?_) fun _ => ?_
    · rw [hf] at hin
      exact ⟨framingIn_collect hin hl, hrest⟩
    · exact work_bridgeGood s l _
    · refine work_rejectBridge s l _ fun ⟨hin, _⟩ => ?_
      rw [hf] at hin
      rw [List.length_append]
      exact hin.1

theorem work_abandonBridge : Work s (s.abandonBridge l) := by
  unfold State.abandonBridge
  split
  · exact .refl s
  · next bytes gap hf =>
    refine work_rejectBridge s l _ fun ⟨hin, _⟩ => ?_
    rw [hf] at hin
    exact hin.1.le

theorem work_bridgeLost : Work s (s.bridgeLost l) := by
  unfold State.bridgeLost
  refine Work.trans (work_updLwu s ?_ ?_ ?_ fun ⟨hf, _⟩ => ⟨hf, Nat.zero_le _, fun _ => rfl⟩) (work_pushEvent _ _ _)
  all_goals dsimp only; split <;> rfl

end

end Sys2Proof.Proofs

/-! What every step keeps: the requests that place nothing. -/

namespace Sys2Proof.Proofs

open Sys2Proof.Machine Sys2Proof.Safety Sys2Proof.Laws

/-! ## What one command keeps -/

/-- A command keeps the queue of waiting commands and every property of a safe state, each given the ones it leans on. -/
structure Upholds (s t : State) : Prop where
  pending : t.pending = s.pending
  queue : QueueBounded s → QueueBounded t
  limit : GrantLimit s → GrantLimit t
  flow : FlowRanges s → FlowRanges t
  calibration : CalibrationRanges s → CalibrationRanges t
  lines : LinesFramed s → LinesFramed t
  gates : GatesSupervised s → GatesSupervised t
  outputs : OutputsExact s → OutputsExact t
  views : ViewsExact s → ViewsExact t
  permitted : GatePermissions s → GatePermissions t
  feed : FeedPlaces s → FeedPlaces t
  orders : FeedPlaces s → OrdersPlaced s → OrdersPlaced t
  stages : FeedPlaces s → OrdersPlaced s → StagesPlaced s → StagesPlaced t
  windows : FeedPlaces s → WindowsPlaced s → WindowsPlaced t

theorem Upholds.refl (s : State) : Upholds s s :=
  ⟨rfl, id, id, id, id, id, id, id, id, id, id, fun _ => id, fun _ _ => id, fun _ => id⟩

theorem Upholds.trans {s t u : State} (h : Upholds s t) (k : Upholds t u) : Upholds s u where
  pending := k.pending.trans h.pending
  queue := k.queue ∘ h.queue
  limit := k.limit ∘ h.limit
  flow := k.flow ∘ h.flow
  calibration := k.calibration ∘ h.calibration
  lines := k.lines ∘ h.lines
  gates := k.gates ∘ h.gates
  outputs := k.outputs ∘ h.outputs
  views := k.views ∘ h.views
  permitted := k.permitted ∘ h.permitted
  feed := k.feed ∘ h.feed
  orders hf ho := k.orders (h.feed hf) (h.orders hf ho)
  stages hf ho hs := k.stages (h.feed hf) (h.orders hf ho) (h.stages hf ho hs)
  windows hf hw := k.windows (h.feed hf) (h.windows hf hw)

/-- The part works on, if no reset is held. -/
structure Serves (s t : State) : Prop where
  held : t.rst.held = s.rst.held
  upholds : Running s → Upholds s t

theorem Serves.refl (s : State) : Serves s s := ⟨rfl, fun _ => .refl s⟩

theorem Serves.trans {s t u : State} (h : Serves s t) (k : Serves t u) : Serves s u :=
  ⟨k.held.trans h.held, fun hr => (h.upholds hr).trans (k.upholds (h.held.trans hr))⟩

theorem Serves.ite {s t u : State} {p : Prop} [Decidable p] (h : p → Serves s t) (k : ¬ p → Serves s u) :
    Serves s (if p then t else u) := by
  split
  · exact h ‹_›
  · exact k ‹_›

theorem outputsExact_of_running {s : State} (h : Running s) : OutputsExact s ↔ OutputsFollow s :=
  ⟨fun ⟨k, _⟩ => k h, fun k => ⟨fun _ => k, fun hn => absurd h hn⟩⟩

theorem gatesSupervised_of_running {s : State} (h : Running s) : GatesSupervised s ↔ GatesAgree s := by
  rw [gatesSupervised_iff]
  exact ⟨fun k => k.2 h, fun k => ⟨fun sp g => (k sp g).1, fun _ => k⟩⟩

theorem Work.serves {s t : State} (h : Work s t) : Serves s t where
  held := by rw [h.rst]
  upholds hr := by
    have hr' : Running t := by rw [Running, h.rst]; exact hr
    exact
      { pending := h.pending, queue := h.queue, limit := h.limit, flow := h.flow, calibration := h.calibration
        lines := h.lines, views := h.views, permitted := h.permitted, feed := h.feed, orders := h.orders
        stages := h.stages, windows := h.windows
        gates := fun hs => (gatesSupervised_of_running hr').2 (h.gates ((gatesSupervised_of_running hr).1 hs))
        outputs := fun hs => (outputsExact_of_running hr').2 (h.outputs ((outputsExact_of_running hr).1 hs)) }

/-! ## The clock and the link -/

/-- The clock, the link and the terminals of the reset place nothing and command nothing. -/
theorem upholds_clock {s t : State} (h : { s with now := t.now, msBase := t.msBase, sl := t.sl, rst := t.rst } = t)
    (hheld : t.rst.held = s.rst.held) : Upholds s t := by
  obtain ⟨now, msBase, rst, sl⟩ := t
  cases h
  have running : ∀ {u : State}, u.rst.held = s.rst.held → (Running u ↔ Running s) := fun hu => by rw [Running, hu, Running]
  refine ⟨rfl, id, id, id, id, id, fun hs sp g => ?_, fun ⟨hon, hoff⟩ => ?_, id, id, id, fun _ => id, fun _ _ => id,
    fun _ => id⟩
  · exact ⟨(hs sp g).1, fun hr => (hs sp g).2 ((running hheld).1 hr)⟩
  · exact ⟨fun hr => hon ((running hheld).1 hr), fun hr => hoff fun hs => hr ((running hheld).2 hs)⟩

theorem serves_updSl (s : State) (f : Sl → Sl) : Serves s (s.updSl f) := ⟨rfl, fun _ => upholds_clock rfl rfl⟩

theorem serves_reach (s : State) (t : Nat) : Serves s (s.reach t) := ⟨rfl, fun _ => upholds_clock rfl rfl⟩

theorem Upholds.whenRunning {s : State} {f : State → State} (h : Serves s (f s)) : Upholds s (s.whenRunning f) := by
  by_cases hr : Running s
  · rw [whenRunning_of_running hr]; exact h.upholds hr
  · rw [whenRunning_of_held hr]; exact .refl s

/-! ## Requests (R179, R182) -/

/-- A request's step takes no time, keeps every property, and changes nothing when its reply refuses it. -/
structure Answers (s : State) (x : State × Reply) : Prop where
  serves : Serves s x.1
  now : x.1.now = s.now
  refused : x.2.status ≠ .ok → x.2.status ≠ .okClamped → x.1 = s

section
variable {s : State}

theorem Answers.unchanged (s : State) (r : Reply) : Answers s (s, r) := ⟨.refl s, rfl, fun _ _ => rfl⟩

theorem Answers.ok {t : State} (h : Serves s t) (hnow : t.now = s.now) (contents : List Byte) :
    Answers s (t, .ok contents) := ⟨h, hnow, fun hne => absurd rfl hne⟩

theorem Answers.stored {t : State} (h : Serves s t) (hnow : t.now = s.now) (clamped : Bool) (contents : List Byte) :
    Answers s (t, .stored clamped contents) :=
  ⟨h, hnow, fun hok hclamped => by cases clamped; exacts [absurd rfl hok, absurd rfl hclamped]⟩

theorem Work.answers {t : State} (h : Work s t) (contents : List Byte) : Answers s (t, .ok contents) :=
  .ok h.serves h.now contents

theorem Answers.ite {x y : State × Reply} {p : Prop} [Decidable p] (h : p → Answers s x) (k : ¬ p → Answers s y) :
    Answers s (if p then x else y) := by
  split
  · exact h ‹_›
  · exact k ‹_›

theorem Answers.withSpout {f : Spout → State × Reply} (h : ∀ sp, Answers s (f sp)) (b : Byte) :
    Answers s (withSpout b s f) := by
  unfold Machine.withSpout
  split
  · exact .unchanged s _
  · exact h _

theorem Answers.withLane {f : Lane → State × Reply} (h : ∀ l, Answers s (f l)) (b : Byte) :
    Answers s (withLane b s f) := by
  unfold Machine.withLane
  split
  · exact .unchanged s _
  · exact h _

/-! ## The Input/Output Block's requests -/

/-- A change of the block that commands no gate, keeps its views, and leaves each output following its source. -/
theorem work_updIob (s : State) {f : Iob → Iob}
    (houtputs : ∀ o ∈ (f s.iob).outputs, o ∈ s.iob.outputs ∨
      o.terminal = (s.iob.views.holds o.cfg o.manual != o.cfg.invert))
    (hviews : (f s.iob).views = s.iob.views := by rfl) (hcoarse : (f s.iob).coarseOut = s.iob.coarseOut := by rfl)
    (hfine : (f s.iob).fineOut = s.iob.fineOut := by rfl) (haeration : (f s.iob).aeration = s.iob.aeration := by rfl)
    (hack : (f s.iob).holdAck = s.iob.holdAck := by rfl) (hatt : (f s.iob).attention = s.iob.attention := by rfl)
    (hgates : (f s.iob).gates = s.iob.gates := by rfl) : Work s (s.updIob f) := by
  have tells : Tells s (s.updIob f) :=
    { gates := fun h sp g => by
        have hat := h sp g
        cases g <;> simpa [State.gate, gateTerminal, hgates, hcoarse, hfine] using hat
      outputs := fun ⟨hout, hk, ha⟩ => by
        refine ⟨fun o ho => ?_, by simpa [hack] using hk, by simpa [hatt] using ha⟩
        rw [State.updIob_iob, hviews]
        exact (houtputs o ho).elim (hout o) id
      views := fun held h => by simpa [ViewsFollow, hviews] using h }
  exact .of_samePlaces tells { coarse := hcoarse, fine := hfine, aeration := haeration }

theorem answers_readStation (s : State) : Answers s (readStationRequest s) :=
  (work_updIob s fun _ => .inl).answers _

theorem answers_readSpout (s : State) (spout options : Byte) : Answers s (readSpoutRequest spout options s) := by
  refine .withSpout (fun sp => Work.answers ?_ _) spout
  refine Work.ite (fun _ => ?_) fun _ => work_updIob s fun _ => .inl
  exact (work_updIob s fun _ => .inl).trans (work_updFc _)

theorem answers_readLane (s : State) (lane : Byte) : Answers s (readLaneRequest lane s) :=
  .withLane (fun _ => .unchanged s _) lane

/-- A manual level moves an output whose source is MANUAL, and no other (R58). -/
theorem setManual_follows (v : SourceViews) (on off : Bool) {o : ConfigOut}
    (h : o.terminal = (v.holds o.cfg o.manual != o.cfg.invert)) :
    (o.setManual v on off).terminal =
      (v.holds (o.setManual v on off).cfg (o.setManual v on off).manual != (o.setManual v on off).cfg.invert) := by
  unfold ConfigOut.setManual
  dsimp only
  split
  · rfl
  · next hsource =>
    rw [h]
    cases hs : o.cfg.source <;> simp_all [SourceViews.holds]

theorem tells_setOutputs (s : State) (setMask clearMask : Byte) :
    Tells s (s.updIob fun b => b.setOutputs setMask clearMask) where
  outputs := fun ⟨hout, hack, hatt⟩ => by
    refine ⟨fun o ho => ?_, hack, hatt⟩
    simp only [State.updIob_iob, Iob.outputs, Iob.setOutputs, PerSpout.toList, PerAux.toList, List.cons_append,
      List.nil_append, List.mem_cons, List.not_mem_nil, or_false] at ho
    rcases ho with rfl | rfl | rfl | rfl | rfl | rfl | rfl | rfl <;>
      exact setManual_follows s.iob.views _ _ (hout _ (by simp [Iob.outputs, PerSpout.toList, PerAux.toList]))

theorem answers_setOutputs (s : State) (setMask clearMask : Byte) :
    Answers s (setOutputsRequest setMask clearMask s) :=
  (Work.of_samePlaces (tells_setOutputs s setMask clearMask) {}).answers _

/-! ## Configuration and calibration (R20, R35, R36, R84, R139, R162) -/

theorem work_setReports (s : State) (enables : BitVec 24) : Work s (s.setReports enables) := by
  unfold State.setReports
  exact Work.foldl (fun s i => work_setInput s i _) _ s

theorem work_setAux (s : State) (debounce : Nat) (aux : PerAux OutputField) :
    Work s (s.updIob fun b => { b with debounce := debounce }.setAux aux) := by
  refine work_updIob s fun o ho => ?_
  simp only [Iob.outputs, Iob.setAux, List.mem_append] at ho
  rcases ho with ho | ho
  · exact .inl (by simp [Iob.outputs, ho])
  · simp only [PerAux.toList, List.mem_cons, List.not_mem_nil, or_false] at ho
    rcases ho with rfl | rfl | rfl | rfl <;> exact .inr rfl

/-- G changes only while no grant is held (R139). -/
theorem work_setG (s : State) {g : Nat} (h : g = s.fa.g ∨ s.fa.busy = false) :
    Work s (s.updFa fun f => { f with g := g }) := by
  refine .of_samePlaces (tells_updFa s fun hl => ?_) {}
  rcases h with rfl | h
  · exact holderCount_le_of_grantLimit s hl
  · have none : s.fa.holderCount = 0 := by
      simp only [Fa.busy, Bool.or_eq_false_iff, decide_eq_false_iff_not, not_not] at h
      exact h.1
    exact none.le.trans (Nat.zero_le _)

theorem work_setMask (s : State) (m : CategoryMask) : Work s (s.updRq fun q => { q with mask := m }) :=
  .of_samePlaces (tells_updRq s id) {}

theorem answers_configStation (s : State) (f : StationFields) : Answers s (configStationRequest f s) := by
  unfold configStationRequest
  refine .ite (fun _ => .unchanged s _) fun h => ?_
  refine .stored ?_ ?_ _ _
  · have hg : (storeStation f).g.toNat = s.fa.g ∨ s.fa.busy = false := by
      rw [not_and_or, not_not, Bool.not_eq_true] at h
      exact h
    refine Serves.trans ?_ (work_setMask _ _).serves
    refine Serves.trans ?_ (work_setReports _ _).serves
    refine Serves.trans ?_ (work_setAux _ _ _).serves
    exact (work_setG s hg).serves.trans (serves_updSl _ _)
  · rw [State.updRq_now, (work_setReports _ _).now]
    rfl

theorem answers_configLane (s : State) (f : LaneFields) : Answers s (configLaneRequest f s) := by
  refine .withLane (fun l => .ite (fun _ => .unchanged s _) fun _ => ?_) _
  have stored : Work s (s.updLwu l fun u => { u with params := storeLaneParams f }) := work_updLwu s
  exact .stored stored.serves rfl _ _

/-- A new W and a new Lmax bring the window and L into their ranges (R20, R21). -/
theorem tells_setParams (s : State) (sp : Spout) (p : SpoutParams) :
    Tells s
      (({ s with params := s.params.set sp p } : State).updFc sp fun c => (c.trim p.w).setCorr p.lmax c.corr) where
  flow h := by
    have hat := h sp
    refine forall_of_elsewhere sp ?_ fun q hq => ?_
    · obtain ⟨_, hle, hmean, hrest⟩ := hat
      simp only [State.updFc_fc, State.updFc_params, PerSpout.get_set_self, Fc.setCorr, Fc.trim]
      split
      · exact ⟨length_keepLast_le _ _, fun x hx => hle x (List.mem_of_mem_drop hx), rfl, hrest⟩
      · next hw => exact ⟨Nat.not_lt.1 hw, hle, hmean, hrest⟩
    · simpa [PerSpout.get_set, hq] using h q
  calibration := fun ⟨hlive, hstored⟩ => by
    refine ⟨forall_of_elsewhere sp ?_ fun q hq => ?_, hstored⟩
    · obtain ⟨hlo, hhi, _⟩ := hlive sp
      simp only [State.updFc_fc, State.updFc_params, PerSpout.get_set_self, Fc.setCorr, Fc.trim]
      split <;> exact ⟨hlo, hhi, clampInt_mem (by omega)⟩
    · simpa [PerSpout.get_set, hq] using hlive q

theorem trim_active (f : Fc) (w : Nat) : (f.trim w).active = f.active := by
  unfold Fc.trim
  split <;> rfl

theorem work_setBeacon (s : State) (sp : Spout) (cfg : OutputCfg) :
    Work s (s.updIob fun b => { b with beacon := b.beacon.set sp ((b.beacon.get sp).setCfg b.views cfg) }) := by
  refine work_updIob s fun o ho => ?_
  simp only [Iob.outputs, List.mem_append] at ho ⊢
  rcases ho with ho | ho
  · cases sp <;>
      simp only [PerSpout.set, PerSpout.toList, List.mem_cons, List.not_mem_nil, or_false] at ho ⊢ <;>
      rcases ho with rfl | rfl | rfl | rfl <;> simp [ConfigOut.setCfg, ConfigOut.recompute]
  · exact .inl (.inr ho)

theorem answers_configSpout (s : State) (f : SpoutFields) : Answers s (configSpoutRequest f s) := by
  refine .withSpout (fun sp => .ite (fun _ => .unchanged s _) fun _ => ?_) _
  have stored := Work.of_samePlaces (tells_setParams s sp (storeSpoutParams f))
    { fcActive := fcActive_set (trim_active _ _) }
  exact .stored (stored.trans (work_setBeacon _ sp _)).serves rfl _ _

theorem answers_setCalibration (s : State) (spout : Byte) (span : BitVec 32) (zero : BitVec 16) (corr : BitVec 32) :
    Answers s (setCalibrationRequest spout span zero corr s) := by
  refine .withSpout (fun sp => .ite (fun _ => .unchanged s _) fun _ => ?_) _
  refine .stored (Work.serves ?_) ?now _ _
  case now => rfl
  refine work_updFc s id fun _ => ?_
  have hspan : 1 ≤ clampInt 1 Config.spanMax span.toNat ∧ clampInt 1 Config.spanMax span.toNat ≤ Config.spanMax :=
    clampInt_mem (by decide)
  have hmax : Config.spanMax = 1048575 := rfl
  refine ⟨?_, ?_, clampInt_mem (by omega)⟩ <;>
    simp only [Fc.restartZero, Fc.setCorr, Fc.setSpan] <;> omega

theorem work_captureZero (s : State) (sp : Spout) : Work s (s.captureZero sp) := by
  unfold State.captureZero
  dsimp only
  split
  · exact .refl s
  · exact (work_updFc s).trans (Work.ite (fun _ => .refl _) fun _ => work_pushEvent _ _ _)

theorem answers_zero (s : State) (spout : Byte) : Answers s (zeroRequest spout s) := by
  refine .withSpout (fun sp => ?_) _
  refine .ite (fun _ => .unchanged s _) fun _ => .ite (fun _ => .unchanged s _) fun _ =>
    .ite (fun _ => .unchanged s _) fun _ => ?_
  exact (work_captureZero s sp).answers _

/-! ## The report queue and the Calibration Store (R189, R194) -/

theorem answers_readEvents (s : State) (n : Byte) : Answers s (readEventsRequest n s) := by
  refine .ite (fun _ => .unchanged s _) fun _ => Work.answers (.of_samePlaces (tells_updRq s fun ⟨hlen, _⟩ => ?_) {}) _
  refine ⟨?_, Nat.zero_le _⟩
  rw [List.length_drop]
  exact (Nat.sub_le _ _).trans hlen

/-- The live items are calibrated as their owners have them (R192, R194). -/
theorem itemsCalibrated_items (s : State) (h : CalibrationRanges s) : ItemsCalibrated s.items := by
  intro sp
  cases sp <;> exact h.1 _

theorem answers_save (s : State) : Answers s (saveRequest s) := by
  unfold saveRequest
  split
  · exact .unchanged s _
  · refine Work.answers (work_updCs s fun h => ⟨h.2.1, fun part copy limit heq => ?_⟩) _
    cases heq
    exact itemsCalibrated_items s h

theorem work_partComplete (s : State) : Work s s.partComplete := by
  unfold State.partComplete
  split
  · next hstore =>
    refine work_updCs s fun h => ⟨h.2.1, fun part copy limit heq => ?_⟩
    cases heq
    exact h.2.2 _ _ _ hstore
  · next hstore =>
    refine work_updCs s fun h => ⟨h.2.2 _ _ _ hstore, fun part copy limit heq => ?_⟩
    cases heq
    exact h.2.2 _ _ _ hstore
  · exact .refl s

theorem work_writeComplete (s : State) (held : Bool) : Work s (s.writeComplete held) := by
  unfold State.writeComplete
  split
  · next hstore =>
    exact (work_updCs s fun h => ⟨h.2.2 _ _ _ hstore, fun _ _ _ heq => by cases heq⟩).trans (work_pushEvent _ _ _)
  · exact .refl s

/-- The write of the image ends with its check word failing (R194). -/
theorem work_storeFails (s : State) :
    Work s ((s.updCs fun c => { image := { c.image with check := .failing }, store := .idle }).pushEvent .station
      .storeFailed) :=
  (work_updCs s fun h => ⟨h.2.1, fun _ _ _ heq => by cases heq⟩).trans (work_pushEvent _ _ _)

/-! ## CLEAR-LOCKOUT (R137) -/

/-- An idle spout's lockout set is emptied and its view with it. -/
theorem tells_clearLockout (s : State) (sp : Spout) :
    Tells s ((s.updSc sp fun c => { c with lockout := .empty }).notice fun v =>
      { v with lockout := v.lockout.set sp false }) where
  toKeeps := (keeps_updSc s sp _).trans (keeps_notice _ _)
  views := fun held ⟨hs, hl, hf⟩ => by
    refine ⟨forall_of_elsewhere sp ?_ fun q hq => ?_, hl, hf⟩
    · simpa [Iob.recompute] using ⟨(hs sp).1, (hs sp).2.1, (hs sp).2.2.2⟩
    · simpa [Iob.recompute, PerSpout.get_set, hq] using hs q

theorem work_clearLockout (s : State) (sp : Spout) :
    Work s ((s.updSc sp fun c => { c with lockout := .empty }).notice fun v =>
      { v with lockout := v.lockout.set sp false }) := by
  have only : OnlyAt sp s ((s.updSc sp fun c => { c with lockout := .empty }).notice fun v =>
      { v with lockout := v.lockout.set sp false }) :=
    { sc := PerSpout.get_set_of_ne _ _, active := by simp }
  refine .of_onlyAt (tells_clearLockout s sp) only (fun hp => ?_) (fun hf => ?_) (fun _ => by simp) (fun _ => by simp)
    fun _ _ hs => ?_
  · simpa [PermittedAt, Iob.recompute] using hp sp
  · obtain ⟨hreq, hholder, _⟩ := ((feedPlaces_iff s).1 hf).2 sp
    simpa [FeedPlacedAt] using ⟨hreq, hholder⟩
  · simpa [StagedIn] using hs

theorem answers_clearLockout (s : State) (spout : Byte) : Answers s (clearLockoutRequest spout s) := by
  refine .withSpout (fun sp => ?_) _
  refine .ite (fun _ => .unchanged s _) fun _ => .ite (fun _ => .unchanged s _) fun _ =>
    .ite (fun _ => .unchanged s _) fun _ => ?_
  exact (work_clearLockout s sp).answers _

/-! ## STOP (R128) -/

theorem answers_stop (s : State) (spout : Byte) : Answers s (stopRequest spout s) := by
  refine .withSpout (fun sp => .ite (fun _ => .unchanged s _) fun _ => ?_) _
  exact ((work_abortCause s sp .hostStop).trans (work_testGrant _)).answers _

end

end Sys2Proof.Proofs

/-! What every step keeps: the requests that move orders. -/

namespace Sys2Proof.Proofs

open Sys2Proof.Machine Sys2Proof.Safety Sys2Proof.Laws

/-! ## LOAD-ORDER (R65) -/

/-- An order placed in a FREE slot and at the tail of a queue that has room is at home there (R65). -/
theorem ordersPlaced_place {s : State} {sp : Spout} {i : Fin 16} {r : SlotRec} (h : OrdersPlaced s)
    (hfree : (s.ot.slot i).state = .free) (hlen : (s.ot.queues.get sp).length < 4) (hstate : r.state = .queued)
    (hspout : r.spout = some sp) : OrdersPlaced (s.updOt fun t => t.place sp i r) := by
  rw [ordersPlaced_iff] at h ⊢
  obtain ⟨hat, hfits⟩ := h
  have slot : ∀ j, (s.ot.place sp i r).slot j = if j = i then r else s.ot.slot j := fun j => slot_setSlot s.ot i j r
  have unqueued : ∀ q, i ∉ s.ot.queues.get q := fun q hi => by
    have := ((hat q).queue i).1 hi
    rw [hfree] at this
    exact nomatch this.1
  have inactive : ∀ q, (s.sc.get q).active ≠ some i := fun q hi => by
    have := ((hat q).active i).1 hi
    rw [hfree] at this
    exact nomatch this.1
  have unended : ∀ q, s.ot.lastEnded.get q ≠ some i := fun q hi => by
    have := ((hat q).ended i hi).1
    rw [hfree] at this
    exact nomatch this
  have queues : ∀ q, (s.ot.place sp i r).queues.get q =
      if q = sp then s.ot.queues.get sp ++ [i] else s.ot.queues.get q := fun q => PerSpout.get_set ..
  refine ⟨fun q => ⟨?_, ?_, fun j => ?_, fun j => ?_, (hat q).held, (hat q).fc, fun j hj => ?_⟩, fun j => ?_⟩
  · rw [State.updOt_ot, queues]
    split
    · rw [List.length_append]; exact hlen
    · exact (hat q).depth
  · rw [State.updOt_ot, queues]
    split
    · exact List.nodup_append.2 ⟨(hat sp).nodup, List.nodup_singleton i, fun x hx y hy => by
        rw [List.mem_singleton.1 hy]; exact fun hxi => unqueued sp (hxi ▸ hx)⟩
    · exact (hat q).nodup
  · rw [State.updOt_ot, queues, slot]
    by_cases hj : j = i
    · subst hj
      by_cases hq : q = sp
      · simp [hq, hstate, hspout]
      · simp [hq, unqueued, hspout, Ne.symm hq]
    · by_cases hq : q = sp
      · simp [hq, hj, (hat sp).queue j]
      · simp [hq, hj, (hat q).queue j]
  · rw [State.updOt_sc, State.updOt_ot, slot]
    by_cases hj : j = i
    · simp [hj, hstate, inactive]
    · simpa [hj] using (hat q).active j
  · have hji : j ≠ i := fun e => unended q (e ▸ hj)
    rw [State.updOt_ot, slot, if_neg hji]
    exact (hat q).ended j hj
  · rw [State.updOt_ot, slot]
    split
    · exact .of_spout (by simp [hstate]) hspout
    · exact hfits j

theorem freeSlot_free {t : Ot} {i : Fin 16} (h : t.freeSlot = some i) : (t.slot i).state = .free := by
  simpa using List.find?_some h

/-- A change of the orders alone: the spouts, the outputs and the windows stay as they are. -/
theorem work_updOt {s : State} {f : Ot → Ot} (hended : (f s.ot).lastEnded = s.ot.lastEnded)
    (h : OrdersPlaced s → OrdersPlaced (s.updOt f)) : Work s (s.updOt f) where
  toKeeps := (tells_updOt s hended).toKeeps
  views := (tells_updOt s hended).viewsExact rfl
  permitted := id
  feed := id
  orders _ := h
  stages _ _ := id
  windows _ := id

theorem answers_loadOrder (s : State) (f : OrderFields) : Answers s (loadOrderRequest f s) := by
  unfold loadOrderRequest
  refine .ite (fun _ => .unchanged s _) fun _ => .withSpout (fun sp => ?_) _
  split
  · exact .unchanged s _
  · refine .ite (fun _ => .unchanged s _) fun _ => .ite (fun _ => .unchanged s _) fun hroom => ?_
    split
    · exact .unchanged s _
    · next i hi =>
      exact (work_updOt rfl fun h => ordersPlaced_place h (freeSlot_free hi) (Nat.not_le.1 hroom) rfl rfl).answers _

/-! ## RELEASE-ORDER (R76) -/

/-- A slot that has ended becomes FREE, and its spout no longer names it (R71, R76). -/
theorem ordersPlaced_release {s t : State} {i : Fin 16} (h : OrdersPlaced s)
    (hended : (s.ot.slot i).state.ended = true) (hslots : t.ot.slots = (s.ot.setSlot i .cleared).slots)
    (hqueues : t.ot.queues = s.ot.queues) (hsc : t.sc = s.sc) (hfc : t.fc = s.fc)
    (hlast : ∀ q j, t.ot.lastEnded.get q = some j → s.ot.lastEnded.get q = some j ∧ j ≠ i) : OrdersPlaced t := by
  rw [ordersPlaced_iff] at h ⊢
  obtain ⟨hat, hfits⟩ := h
  have slot : ∀ j, t.ot.slot j = if j = i then .cleared else s.ot.slot j := fun j => by
    rw [← slot_setSlot, Ot.slot, Ot.slot, hslots]
  have hne : (s.ot.slot i).state ≠ .queued ∧ (s.ot.slot i).state ≠ .active := by
    constructor <;> intro hs <;> rw [hs] at hended <;> exact nomatch hended
  refine ⟨fun q => ⟨hqueues ▸ (hat q).depth, hqueues ▸ (hat q).nodup, fun j => ?_, fun j => ?_, ?_, ?_, fun j hj => ?_⟩,
    fun j => ?_⟩
  · rw [hqueues, slot, (hat q).queue j]
    by_cases hj : j = i
    · simp [hj, hne, SlotRec.cleared]
    · simp [hj]
  · rw [hsc, slot, (hat q).active j]
    by_cases hj : j = i
    · simp [hj, hne, SlotRec.cleared]
    · simp [hj]
  · rw [hsc]; exact (hat q).held
  · rw [hfc, hsc]; exact (hat q).fc
  · obtain ⟨hs, hji⟩ := hlast q j hj
    rw [slot, if_neg hji]
    exact (hat q).ended j hs
  · rw [slot]
    split
    · exact ⟨⟨fun _ => rfl, fun _ => rfl⟩, fun hc => absurd rfl hc⟩
    · exact hfits j

/-- RESULT_WAITING goes when a spout's most recently ended slot is released (R71). -/
theorem tells_forgetEnded (s : State) (i : Fin 16) (sp : Spout) : Tells s (s.forgetEnded i sp) := by
  unfold State.forgetEnded
  split
  · exact
      { toKeeps := (keeps_updOt s _).trans (keeps_notice _ _)
        views := fun held ⟨hs, hl, hf⟩ => by
          refine ⟨forall_of_elsewhere sp ?_ fun q hq => ?_, hl, hf⟩
          · simpa [Iob.recompute] using ⟨(hs sp).1, (hs sp).2.1, (hs sp).2.2.1⟩
          · simpa [Iob.recompute, PerSpout.get_set, hq] using hs q }
  · exact .refl s

/-- What a reference that is forgotten leaves as it was. -/
theorem forgetEnded_rest (s : State) (i : Fin 16) (sp : Spout) :
    (s.forgetEnded i sp).sc = s.sc ∧ (s.forgetEnded i sp).fa = s.fa ∧ (s.forgetEnded i sp).fc = s.fc ∧
      (s.forgetEnded i sp).lwu = s.lwu ∧ (s.forgetEnded i sp).ot.slots = s.ot.slots ∧
        (s.forgetEnded i sp).ot.queues = s.ot.queues ∧ (s.forgetEnded i sp).iob.coarseOut = s.iob.coarseOut ∧
          (s.forgetEnded i sp).iob.fineOut = s.iob.fineOut ∧ (s.forgetEnded i sp).iob.aeration = s.iob.aeration := by
  unfold State.forgetEnded
  split <;> exact ⟨rfl, rfl, rfl, rfl, rfl, rfl, rfl, rfl, rfl⟩

/-- The spout of a released slot no longer names it; the other references stay. -/
theorem forgetEnded_lastEnded (s : State) (i : Fin 16) (sp q : Spout) (j : Fin 16) :
    (s.forgetEnded i sp).ot.lastEnded.get q = some j ↔ s.ot.lastEnded.get q = some j ∧ (q = sp → j ≠ i) := by
  unfold State.forgetEnded
  by_cases hq : q = sp
  · subst hq
    split
    · next hi => simp [hi, eq_comm]
    · next hi => exact ⟨fun hj => ⟨hj, fun _ e => hi (e ▸ hj)⟩, And.left⟩
  · split <;> simp [PerSpout.get_set, hq]

/-- A change of one slot and its reference that no other block follows. -/
theorem Tells.work_of_orders {s t : State} (h : Tells s t) (hsc : t.sc = s.sc) (hfa : t.fa = s.fa)
    (hlwu : t.lwu = s.lwu) (hcoarse : t.iob.coarseOut = s.iob.coarseOut) (hfine : t.iob.fineOut = s.iob.fineOut)
    (haeration : t.iob.aeration = s.iob.aeration) (horders : OrdersPlaced s → OrdersPlaced t) : Work s t where
  toKeeps := h.toKeeps
  views := h.viewsExact (by rw [hfa])
  permitted hp := by simpa only [GatePermissions, hcoarse, hfine, haeration, hsc, hfa] using hp
  feed hf := by simpa only [FeedPlaces, hsc, hfa] using hf
  orders _ := horders
  stages _ _ hs := by simpa only [StagesPlaced, hsc] using hs
  windows _ hw := by simpa only [WindowsPlaced, hsc, hlwu] using hw

theorem answers_release (s : State) (slot : Byte) : Answers s (releaseRequest slot s) := by
  unfold releaseRequest
  split
  · exact .unchanged s _
  · next i _ =>
    refine .ite (fun hended => Work.answers ?_ _) fun _ => .unchanged s _
    have cleared : Tells s (s.updSlot i fun _ => .cleared) := tells_updSlot s i _
    split
    · next hnone =>
      refine cleared.work_of_orders rfl rfl rfl rfl rfl rfl fun ho => ?_
      have := ((ordersPlaced_iff s).1 ho).2 i
      refine absurd hnone (this.2 fun hfree => ?_)
      rw [hfree] at hended
      exact nomatch hended
    · next sp hsp =>
      obtain ⟨sc, fa, fc, lwu, slots, queues, coarse, fine, aeration⟩ :=
        forgetEnded_rest (s.updSlot i fun _ => .cleared) i sp
      refine (cleared.trans (tells_forgetEnded _ i sp)).work_of_orders sc fa lwu coarse fine aeration fun ho => ?_
      refine ordersPlaced_release ho hended slots queues sc fc fun q j hj => ?_
      obtain ⟨hlast, hne⟩ := (forgetEnded_lastEnded _ i sp q j).1 hj
      refine ⟨hlast, fun e => hne ?_ e⟩
      have hq := (((ordersPlaced_iff s).1 ho).1 q).ended j hlast
      rw [e, hsp] at hq
      exact (Option.some.inj hq.2).symm

/-! ## WITHDRAW-VEHICLE (R74, R75) -/

theorem slot_withdraw (t : Ot) (tag : List Byte) (i : Fin 16) :
    (t.withdraw tag).slot i = if (t.slot i).queuedFor tag then .cleared else t.slot i :=
  Vector.getElem_map _ i.isLt

/-- The QUEUED orders of a vehicle leave their queues and become FREE; the others stay (R74). -/
theorem ordersPlaced_withdraw {s : State} (tag : List Byte) (h : OrdersPlaced s) :
    OrdersPlaced (s.updOt fun t => t.withdraw tag) := by
  rw [ordersPlaced_iff] at h ⊢
  obtain ⟨hat, hfits⟩ := h
  have queues : ∀ q, (s.ot.withdraw tag).queues.get q =
      (s.ot.queues.get q).filter fun i => !(s.ot.slot i).queuedFor tag := fun q => PerSpout.get_map ..
  have queued : ∀ i, (s.ot.slot i).queuedFor tag = true → (s.ot.slot i).state = .queued := fun i hi => by
    simp only [SlotRec.queuedFor, Bool.and_eq_true, decide_eq_true_iff] at hi
    exact hi.1
  refine ⟨fun q => ⟨?_, ?_, fun j => ?_, fun j => ?_, (hat q).held, (hat q).fc, fun j hj => ?_⟩, fun j => ?_⟩
  · rw [State.updOt_ot, queues]
    exact (List.length_filter_le _ _).trans (hat q).depth
  · rw [State.updOt_ot, queues]
    exact (hat q).nodup.filter _
  · rw [State.updOt_ot, queues, slot_withdraw, List.mem_filter, (hat q).queue j]
    by_cases hj : (s.ot.slot j).queuedFor tag = true
    · simp [hj, SlotRec.cleared]
    · simp [hj]
  · rw [State.updOt_ot, State.updOt_sc, slot_withdraw, (hat q).active j]
    split
    · next hj => simp [queued j hj, SlotRec.cleared]
    · rfl
  · rw [State.updOt_ot, slot_withdraw]
    have hended := (hat q).ended j hj
    split
    · next hq => rw [queued j hq] at hended; exact nomatch hended.1
    · exact hended
  · rw [State.updOt_ot, slot_withdraw]
    split
    · exact ⟨⟨fun _ => rfl, fun _ => rfl⟩, fun hc => absurd rfl hc⟩
    · exact hfits j

theorem answers_withdraw (s : State) (tag : List Byte) : Answers s (withdrawRequest tag s) := by
  unfold withdrawRequest
  refine .ite (fun _ => .unchanged s _) fun _ => .ite (fun _ => .unchanged s _) fun _ => Work.answers ?_ _
  refine Work.trans ?_ (work_testGrant _)
  refine Work.trans (work_updOt (f := fun t => t.withdraw tag) rfl (ordersPlaced_withdraw tag)) ?_
  exact Work.foldl (fun s sp => Work.ite (fun _ => work_abortCause s sp _) fun _ => .refl s) _ _

/-! ## START (R67, R88 to R90) -/

section
variable (s : State) (sp : Spout)

/-- The accepted order is active at its spout, whose state has yet to follow (R67, R88). -/
def loaded (i : Fin 16) (rest : List (Fin 16)) : State :=
  ((s.activate sp i rest).updSc sp fun c =>
    { c with active := some i, reasons := .empty, cause := none, deadline := none }).updFc sp fun f =>
      { f with active := some i }

theorem acceptStart_eq_loaded (i : Fin 16) (rest : List (Fin 16)) :
    s.acceptStart sp i rest = ((loaded s sp i rest).beginLoad sp).testGrant := rfl

theorem tells_loaded (i : Fin 16) (rest : List (Fin 16)) : Tells s (loaded s sp i rest) :=
  (((tells_updOt s rfl).trans (tells_updSlot _ i _)).trans (tells_updSc _)).trans (tells_updFc _ id id)

theorem elsewhere_loaded (i : Fin 16) (rest : List (Fin 16)) : Elsewhere sp s (loaded s sp i rest) :=
  { sc := PerSpout.get_set_of_ne _ _ }

theorem loaded_item (i : Fin 16) (rest : List (Fin 16)) :
    (loaded s sp i rest).sc.get sp =
      { s.sc.get sp with active := some i, reasons := .empty, cause := none, deadline := none } := by
  simp [loaded, State.activate]

/-- What a claim leaves alone: all but the lane's window and its view. -/
theorem claimTare_rest :
    (s.claimTare sp).1.sc = s.sc ∧ (s.claimTare sp).1.fa = s.fa ∧ (s.claimTare sp).1.ot = s.ot ∧
      (s.claimTare sp).1.fc = s.fc ∧ (s.claimTare sp).1.iob.coarseOut = s.iob.coarseOut ∧
        (s.claimTare sp).1.iob.fineOut = s.iob.fineOut ∧ (s.claimTare sp).1.iob.aeration = s.iob.aeration ∧
          ∀ m, m ≠ sp.lane → (s.claimTare sp).1.lwu.get m = s.lwu.get m := by
  unfold State.claimTare
  dsimp only
  split <;> exact ⟨rfl, rfl, rfl, rfl, rfl, rfl, rfl, fun m hm => by simp [State.moveWindow, PerLane.get_set, hm]⟩

theorem tells_claimTare : Tells s (s.claimTare sp).1 := by
  have claimed : Tells s (s.updWindow sp.lane fun w => { w with claims := w.claims.set sp.side true }) :=
    tells_updWindow s
  unfold State.claimTare
  dsimp only
  split
  · exact tells_moveWindow s _ _
  · exact claimed
  · exact .refl s
  · exact claimed

theorem elsewhere_claimTare : Elsewhere sp s (s.claimTare sp).1 := by
  obtain ⟨sc, fa, _, _, coarse, fine, aeration, _⟩ := claimTare_rest s sp
  exact ⟨fun q _ => by rw [sc], fun q _ => by rw [fa], fun h => by rw [fa]; exact h, fun q _ => by rw [fa],
    by rw [fa], fun q _ => by rw [coarse], fun q _ => by rw [fine], fun q _ => by rw [aeration]⟩

/-! ### The two ways a load begins -/

theorem beginLoad_of_disabled (h : (s.lwu.get sp.lane).params.enable = false) :
    s.beginLoad sp = s.enterWaitFeed sp := by
  simp [State.beginLoad, h]

/-- In an OPEN window the claim is released at once (R163). -/
theorem beginLoad_of_opened (h : (s.lwu.get sp.lane).params.enable = true)
    (hw : (s.lwu.get sp.lane).window.state = .opened) :
    s.beginLoad sp = (s.setSpoutState sp .tare).enterWaitFeed sp := by
  have hw' : ((s.setSpoutState sp .tare).lwu.get sp.lane).window.state = .opened := hw
  have tare : ((s.setSpoutState sp .tare).sc.get sp).state = .tare := by simp [setSpoutState_eq, enters]
  simp [State.beginLoad, h, State.claimTare, hw', State.releaseClaim, tare]

theorem beginLoad_of_claimed (h : (s.lwu.get sp.lane).params.enable = true)
    (hw : (s.lwu.get sp.lane).window.state ≠ .opened) :
    s.beginLoad sp = ((s.setSpoutState sp .tare).claimTare sp).1 := by
  have unreleased : ((s.setSpoutState sp .tare).claimTare sp).2 = false := by
    unfold State.claimTare
    dsimp only
    split
    · rfl
    · rfl
    · next ho => exact absurd ho hw
    · rfl
  simp [State.beginLoad, h, unreleased]

/-- How a load begins: the spout has left IDLE and is placed, and its order stays where it is. -/
structure Begins (sp : Spout) (s t : State) : Prop where
  told : Tells s t
  rest : Elsewhere sp s t
  permitted : GatePermissions s → PermittedAt t sp
  feed : (s.sc.get sp).lockout = .empty → FeedPlaces s → FeedPlacedAt t sp
  staged : StagedIn (s.sc.get sp) → StagedIn (t.sc.get sp)
  ot : t.ot = s.ot
  fcActive : ∀ q, (t.fc.get q).active = (s.fc.get q).active
  active : (t.sc.get sp).active = (s.sc.get sp).active
  isActive : (t.sc.get sp).state.isActive = true
  windows : WindowsPlaced s → WindowsPlaced t

end

section
variable {s : State} {sp : Spout}

/-- A spout of a lane becomes active with no claim, and the lane's window stays (R89). -/
theorem windowsPlaced_active {t : State} (hlwu : t.lwu = s.lwu) (hsc : ∀ q, q ≠ sp → t.sc.get q = s.sc.get q)
    (hs : (s.sc.get sp).state ≠ .tare) (ht : (t.sc.get sp).state ≠ .tare)
    (hactive : (t.sc.get sp).state.isActive = true) (h : WindowsPlaced s) : WindowsPlaced t := by
  intro l
  obtain ⟨htimer, hclaims, htaring, hnone, hopened⟩ := h l
  rw [hlwu]
  refine ⟨htimer, fun p => (hclaims p).trans ?_, htaring, hnone, fun hw => ?_⟩
  · by_cases hp : l.spout p = sp
    · simp only [hp, hs, ht]
    · rw [hsc _ hp]
  · obtain ⟨p, hp⟩ := hopened hw
    refine ⟨p, ?_⟩
    by_cases hq : l.spout p = sp
    · rw [hq]; exact hactive
    · rw [hsc _ hq]; exact hp

theorem begins_waitFeed (hst : (s.sc.get sp).state = .idle) : Begins sp s (s.enterWaitFeed sp) := by
  obtain ⟨permitted, feed, staged⟩ := enterWaitFeed_placed s (.inl hst)
  have acts := acts_enterWaitFeed s sp
  obtain ⟨_, _, _, lwu, _⟩ := enterWaitFeed_rest s sp
  have item := enterWaitFeed_item s sp
  refine ⟨acts.toTells, acts.toElsewhere, permitted, feed, staged, rfl, acts.fcActive, acts.active, ?_, fun hw => ?_⟩
  · rw [item]; rfl
  · exact windowsPlaced_active lwu acts.sc (by simp [hst]) (by simp [item]) (by rw [item]; rfl) hw

theorem setSpoutState_item (st : SpoutState) :
    (s.setSpoutState sp st).sc.get sp = { s.sc.get sp with state := st } := by
  simp [setSpoutState_eq, enters]

/-- TARE commands no output, holds no grant and runs no stage timer, as IDLE. -/
theorem tare_placed (hst : (s.sc.get sp).state = .idle) :
    (GatePermissions s → GatePermissions (s.setSpoutState sp .tare)) ∧
      ((s.sc.get sp).lockout = .empty → FeedPlaces s → FeedPlaces (s.setSpoutState sp .tare)) ∧
        (StagedIn (s.sc.get sp) → StagedIn ((s.setSpoutState sp .tare).sc.get sp)) := by
  have acts := acts_setSpoutState s sp .tare
  have moves : ∀ hl : (s.sc.get sp).lockout = .empty, FeedPlaces s → FeedPlacedAt (s.setSpoutState sp .tare) sp := by
    intro hl hf
    obtain ⟨hreq, hholder, _⟩ := ((feedPlaces_iff s).1 hf).2 sp
    have hreq : sp ∉ s.fa.requests := not_mem_requests hf (by simp [hst]) (by simp [hst])
    simpa [FeedPlacedAt, setSpoutState_eq, enters, hreq, hl, hst, SpoutState.isFlowing] using hholder
  refine ⟨fun hp => forall_of_elsewhere sp ?_ fun q hq => ?_, fun hl hf => ?_, fun hs => ?_⟩
  · simpa [setSpoutState_eq, enters, hst, SpoutState.isFlowing, Iob.recompute] using hp sp
  · simpa only [acts.sc q hq, acts.coarse q hq, acts.fine q hq, acts.aeration q hq, acts.holders q hq] using hp q
  · refine (feedPlaces_iff _).2 ⟨hf.1, forall_of_elsewhere sp (moves hl hf) fun q hq => ?_⟩
    simpa only [FeedPlacedAt, acts.sc q hq, acts.holders q hq, acts.requests q hq] using ((feedPlaces_iff s).1 hf).2 q
  · simpa [StagedIn, setSpoutState_item, hst, stageOf] using hs

theorem begins_opened (hst : (s.sc.get sp).state = .idle) :
    Begins sp s ((s.setSpoutState sp .tare).enterWaitFeed sp) := by
  obtain ⟨permitted, feed, staged⟩ := tare_placed hst
  have item : (s.setSpoutState sp .tare).sc.get sp = { s.sc.get sp with state := .tare } := setSpoutState_item .tare
  obtain ⟨permitted', feed', staged'⟩ :=
    enterWaitFeed_placed (s.setSpoutState sp .tare) (sp := sp) (.inr (by rw [item]))
  have acts := (acts_setSpoutState s sp .tare).trans (acts_enterWaitFeed _ sp)
  obtain ⟨_, _, _, lwu, _⟩ := enterWaitFeed_rest (s.setSpoutState sp .tare) sp
  have lwu : ((s.setSpoutState sp .tare).enterWaitFeed sp).lwu = s.lwu := lwu
  have ot : ((s.setSpoutState sp .tare).enterWaitFeed sp).ot = (s.setSpoutState sp .tare).ot := rfl
  have item' := enterWaitFeed_item (s.setSpoutState sp .tare) sp
  refine ⟨acts.toTells, acts.toElsewhere, permitted' ∘ permitted,
    fun hl hf => feed' (by rw [item]; exact hl) (feed hl hf), staged' ∘ staged, ot, acts.fcActive, acts.active, ?_,
    fun hw => ?_⟩
  · rw [item']; rfl
  · exact windowsPlaced_active lwu acts.sc (by simp [hst]) (by simp [item']) (by rw [item']; rfl) hw

/-- A claim that waits is placed: its window is TARING or WEIGHING (R163). -/
theorem windowsPlaced_claimed (hst : (s.sc.get sp).state = .idle)
    (hw : (s.lwu.get sp.lane).window.state ≠ .opened) (h : WindowsPlaced s) :
    WindowsPlaced ((s.setSpoutState sp .tare).claimTare sp).1 := by
  have side : ∀ p, sp.lane.spout p = sp ↔ p = sp.side := by intro p; cases sp <;> cases p <;> decide
  obtain ⟨htimer, hclaims, htaring, _, _⟩ := h sp.lane
  obtain ⟨sc, _, _, _, _, _, _, lwu⟩ := claimTare_rest (s.setSpoutState sp .tare) sp
  have acts := acts_setSpoutState s sp .tare
  have item : (s.setSpoutState sp .tare).sc.get sp = { s.sc.get sp with state := .tare } := setSpoutState_item .tare
  have claims : ∀ p, ((s.lwu.get sp.lane).window.claims.set sp.side true).get p = true ↔
      (((s.setSpoutState sp .tare).claimTare sp).1.sc.get (sp.lane.spout p)).state = .tare := by
    intro p
    rw [sc, PerSide.get_set]
    by_cases hp : p = sp.side
    · simp [hp, item]
    · rw [if_neg hp, acts.sc _ fun e => hp ((side p).1 e)]
      exact hclaims p
  have claimed : ∃ p, ((s.lwu.get sp.lane).window.claims.set sp.side true).get p = true := ⟨sp.side, by simp⟩
  refine windowsPlaced_of_lane (s := s) sp.lane ?_ (fun m hm => lwu m hm)
    (fun q hq => by rw [sc]; exact acts.sc q fun e => hq (by rw [e])) fun m _ => h m
  cases hst : (s.lwu.get sp.lane).window.state with
  | closed =>
    have window : (((s.setSpoutState sp .tare).claimTare sp).1.lwu.get sp.lane).window =
        { (s.lwu.get sp.lane).window.created (s.lwu.get sp.lane).line with
          state := .taring, claims := (s.lwu.get sp.lane).window.claims.set sp.side true
          timer := some ⟨.tare, s.now + (s.lwu.get sp.lane).params.tareTimeout * 1000⟩ } := by
      simp [State.claimTare, setSpoutState_eq, enters, hst, State.moveWindow]
    rw [WindowAt, window]
    exact ⟨rfl, claims, fun _ => claimed, fun hc => (nomatch hc), fun hc => nomatch hc⟩
  | taring =>
    have window : (((s.setSpoutState sp .tare).claimTare sp).1.lwu.get sp.lane).window =
        { (s.lwu.get sp.lane).window with claims := (s.lwu.get sp.lane).window.claims.set sp.side true } := by
      simp [State.claimTare, setSpoutState_eq, enters, hst]
    rw [WindowAt, window]
    exact ⟨htimer, claims, fun _ => claimed, fun hc => by simp [hst] at hc, fun hc => by simp [hst] at hc⟩
  | opened => exact absurd hst hw
  | weighing =>
    have window : (((s.setSpoutState sp .tare).claimTare sp).1.lwu.get sp.lane).window =
        { (s.lwu.get sp.lane).window with claims := (s.lwu.get sp.lane).window.claims.set sp.side true } := by
      simp [State.claimTare, setSpoutState_eq, enters, hst]
    rw [WindowAt, window]
    exact ⟨htimer, claims, fun _ => claimed, fun hc => by simp [hst] at hc, fun hc => by simp [hst] at hc⟩

theorem begins_claimed (hst : (s.sc.get sp).state = .idle)
    (hw : (s.lwu.get sp.lane).window.state ≠ .opened) :
    Begins sp s ((s.setSpoutState sp .tare).claimTare sp).1 := by
  obtain ⟨permitted, feed, staged⟩ := tare_placed hst
  have acts := acts_setSpoutState s sp .tare
  have item : (s.setSpoutState sp .tare).sc.get sp = { s.sc.get sp with state := .tare } := setSpoutState_item .tare
  obtain ⟨sc, fa, ot, fc, coarse, fine, aeration, _⟩ := claimTare_rest (s.setSpoutState sp .tare) sp
  refine ⟨acts.toTells.trans (tells_claimTare _ sp), acts.toElsewhere.trans (elsewhere_claimTare _ sp),
    fun hp => ?_, fun hl hf => ?_, fun hs => ?_, ot, fun q => by rw [fc]; exact acts.fcActive q, ?_, ?_,
    windowsPlaced_claimed hst hw⟩
  · simpa only [PermittedAt, coarse, fine, aeration, sc, fa] using permitted hp sp
  · simpa only [FeedPlacedAt, sc, fa] using ((feedPlaces_iff _).1 (feed hl hf)).2 sp
  · rw [sc]; exact staged hs
  · rw [sc, item]
  · rw [sc, item]; rfl

theorem begins_beginLoad (hst : (s.sc.get sp).state = .idle) : Begins sp s (s.beginLoad sp) := by
  cases he : (s.lwu.get sp.lane).params.enable with
  | false => rw [beginLoad_of_disabled s sp he]; exact begins_waitFeed hst
  | true =>
    by_cases hw : (s.lwu.get sp.lane).window.state = .opened
    · rw [beginLoad_of_opened s sp he hw]; exact begins_opened hst
    · rw [beginLoad_of_claimed s sp he hw]; exact begins_claimed hst hw

/-- The head order of an idle spout becomes its active order (R67). -/
theorem ordersPlaced_started {t : State} {i : Fin 16} {rest : List (Fin 16)} {r : SlotRec} (h : OrdersPlaced s)
    (hst : (s.sc.get sp).state = .idle) (hqueue : s.ot.queues.get sp = i :: rest)
    (hot : t.ot = { s.ot.setSlot i r with queues := s.ot.queues.set sp rest }) (hr : r.state = .active)
    (hspout : r.spout = (s.ot.slot i).spout) (hfc : (t.fc.get sp).active = some i)
    (hfc' : ∀ q, q ≠ sp → (t.fc.get q).active = (s.fc.get q).active) (hsc : (t.sc.get sp).active = some i)
    (hact : (t.sc.get sp).state.isActive = true) (hsc' : ∀ q, q ≠ sp → t.sc.get q = s.sc.get q) :
    OrdersPlaced t := by
  rw [ordersPlaced_iff] at h ⊢
  obtain ⟨hat, hfits⟩ := h
  obtain ⟨queued, spout⟩ := ((hat sp).queue i).1 (by rw [hqueue]; exact List.mem_cons_self)
  have nodup := (hat sp).nodup
  rw [hqueue] at nodup
  obtain ⟨hnot, hnodup⟩ := List.nodup_cons.1 nodup
  have slot : ∀ j, t.ot.slot j = if j = i then r else s.ot.slot j := fun j => by
    rw [hot]; exact slot_setSlot s.ot i j r
  have idle : (s.sc.get sp).active = none := by
    have := (hat sp).held
    rw [hst] at this
    exact Option.isNone_iff_eq_none.1 (by simpa [SpoutState.isActive] using this)
  have lastEnded : t.ot.lastEnded = s.ot.lastEnded := by rw [hot]; rfl
  have ended : ∀ q j, t.ot.lastEnded.get q = some j →
      (t.ot.slot j).state.ended = true ∧ (t.ot.slot j).spout = some q := fun q j hj => by
    rw [lastEnded] at hj
    have he := (hat q).ended j hj
    have hji : j ≠ i := fun e => by rw [e, queued] at he; exact nomatch he.1
    rw [slot, if_neg hji]
    exact he
  refine ⟨forall_of_elsewhere sp ?_ fun q hq => ?_, fun j => ?_⟩
  · have hq : t.ot.queues.get sp = rest := by rw [hot]; simp
    refine ⟨?_, by rw [hq]; exact hnodup, fun j => ?_, fun j => ?_, by rw [hsc, hact]; rfl, by rw [hfc, hsc], ended sp⟩
    · have := (hat sp).depth
      rw [hqueue, List.length_cons] at this
      rw [hq]
      omega
    · have hj := (hat sp).queue j
      rw [hqueue, List.mem_cons] at hj
      rw [hq, slot]
      by_cases hji : j = i
      · simp [hji, hr, hnot]
      · simpa [hji] using hj
    · rw [hsc, slot]
      by_cases hji : j = i
      · simp [hji, hr, hspout, spout]
      · have hno := (hat sp).active j
        rw [idle] at hno
        simpa [hji, Ne.symm hji] using hno
  · have hqq : t.ot.queues.get q = s.ot.queues.get q := by rw [hot]; simp [PerSpout.get_set, hq]
    have hne : some sp ≠ some q := fun e => hq (Option.some.inj e).symm
    refine ⟨hqq ▸ (hat q).depth, hqq ▸ (hat q).nodup, fun j => ?_, fun j => ?_, by rw [hsc' q hq]; exact (hat q).held,
      by rw [hfc' q hq, hsc' q hq]; exact (hat q).fc, ended q⟩
    · rw [hqq, (hat q).queue j, slot]
      by_cases hji : j = i
      · simp [hji, hr, spout, hne]
      · simp [hji]
    · rw [hsc' q hq, (hat q).active j, slot]
      by_cases hji : j = i
      · simp [hji, queued, hspout, spout, hne]
      · simp [hji]
  · rw [slot]
    split
    · exact .of_spout (by simp [hr]) (hspout.trans spout)
    · exact hfits j

/-- START accepted at an idle spout that is not locked out (R85, R88). -/
theorem work_acceptStart {i : Fin 16} {rest : List (Fin 16)} (hst : (s.sc.get sp).state = .idle)
    (hlockout : (s.sc.get sp).lockout = .empty) (hqueue : s.ot.queues.get sp = i :: rest) :
    Work s (s.acceptStart sp i rest) := by
  rw [acceptStart_eq_loaded]
  refine Work.trans ?_ (work_testGrant _)
  have item := loaded_item s sp i rest
  have told := tells_loaded s sp i rest
  have elsewhere := elsewhere_loaded s sp i rest
  have begins : Begins sp (loaded s sp i rest) ((loaded s sp i rest).beginLoad sp) :=
    begins_beginLoad (by rw [item]; exact hst)
  refine ⟨.of_elsewhere (told.trans begins.told) (elsewhere.trans begins.rest) (fun hp => begins.permitted ?_)
    (fun hf => begins.feed (by rw [item]; exact hlockout) ?_) (fun _ ho => ?_)
    (fun _ _ hs => begins.staged ?_), fun _ hw => begins.windows ?_⟩
  · refine forall_of_elsewhere sp ?_ fun q hq => ?_
    · rw [item]; exact hp sp
    · rw [elsewhere.sc q hq]; exact hp q
  · refine (feedPlaces_iff _).2 ⟨hf.1, forall_of_elsewhere sp ?_ fun q hq => ?_⟩
    · rw [FeedPlacedAt, item]; exact ((feedPlaces_iff s).1 hf).2 sp
    · rw [FeedPlacedAt, elsewhere.sc q hq]; exact ((feedPlaces_iff s).1 hf).2 q
  · refine ordersPlaced_started ho hst hqueue (r := { s.ot.slot i with
      state := .active, mass := 0, startTime := some s.msTime }) ?_ rfl rfl ?_ (fun q hq => ?_) ?_ begins.isActive ?_
    · rw [begins.ot]; rfl
    · rw [begins.fcActive]; simp [loaded]
    · rw [begins.fcActive]; simp [loaded, State.activate, PerSpout.get_set, hq]
    · rw [begins.active, item]
    · exact (elsewhere.trans begins.rest).sc
  · obtain ⟨hstage, _, _⟩ := hs
    rw [item]
    exact ⟨hstage, by simp [hst], by simp [hst]⟩
  · refine windowsPlaced_congr (s := s) (fun _ => ⟨rfl, rfl, rfl⟩) (forall_of_elsewhere sp (by rw [item]) fun q hq => by rw [elsewhere.sc q hq])
      (forall_of_elsewhere sp (by rw [item]) fun q hq => by rw [elsewhere.sc q hq]) hw

theorem answers_start (s : State) (spout : Byte) : Answers s (startRequest spout s) := by
  refine .withSpout (fun sp => .ite (fun _ => .unchanged s _) fun hst => ?_) _
  split
  · exact .unchanged s _
  · next i rest hqueue =>
    refine .ite (fun _ => .unchanged s _) fun hl => .ite (fun _ => .unchanged s _) fun _ =>
      .ite (fun _ => .unchanged s _) fun _ => .ite (fun _ => .unchanged s _) fun _ => ?_
    exact (work_acceptStart (not_not.1 hst) (not_not.1 hl) hqueue).answers _

end

end Sys2Proof.Proofs

/-! What every step keeps: the restarts, the resets, and every command. -/

namespace Sys2Proof.Proofs

open Sys2Proof.Machine Sys2Proof.Safety Sys2Proof.Laws

/-! ## The warm restart, spout by spout (R49, R80, R106, R153) -/

theorem not_isActive_iff (st : SpoutState) : ¬ st.isActive = true ↔ st = .idle := by
  cases st <;> simp [SpoutState.isActive]

/-- What a warm restart leaves of a Spout Controller (R106). -/
def restartedSc (c : Sc) : Sc :=
  if c.state.isActive then
    { c with
      state := .idle, active := none, grantHeld := false, stage := none, deadline := none, cause := none
      reasons := c.reasons.add .restart }
  else c

theorem restartedSc_state (c : Sc) : (restartedSc c).state = .idle := by
  unfold restartedSc
  split
  · rfl
  · next h => exact (not_isActive_iff _).1 h

theorem StagedIn.restarted {c : Sc} (h : StagedIn c) : StagedIn (restartedSc c) := by
  unfold restartedSc
  split
  · simp [StagedIn, stageOf]
  · exact h

section
variable (s : State) (sp : Spout)

/-- The spout of a warm restart with its waits and its grant forgotten (R106). -/
def dropped (s : State) (sp : Spout) : State :=
  s.updSc sp fun c =>
    { c with
      stage := none, deadline := none, cause := none, grantHeld := false, reasons := c.reasons.add .restart }

theorem restartSpout_of_active (h : (s.sc.get sp).state.isActive = true) :
    s.restartSpout sp =
      ((dropped s sp).endOrder sp (.abort ((dropped s sp).sc.get sp).reasons)).setSpoutState sp .idle := by
  rw [State.restartSpout, if_pos h]
  rfl

theorem restartSpout_of_idle (h : ¬ (s.sc.get sp).state.isActive = true) : s.restartSpout sp = s := by
  rw [State.restartSpout, if_neg h]

theorem tells_restartSpout : Tells s (s.restartSpout sp) := by
  unfold State.restartSpout
  refine Tells.ite (fun _ => ?_) fun _ => .refl s
  exact ((tells_updSc s).trans (tells_endOrder _ sp _)).trans (tells_setSpoutState _ sp .idle)

theorem restartSpout_sc (q : Spout) :
    (s.restartSpout sp).sc.get q = if q = sp then restartedSc (s.sc.get q) else s.sc.get q := by
  by_cases h : (s.sc.get sp).state.isActive = true
  · rw [restartSpout_of_active s sp h]
    by_cases hq : q = sp
    · subst hq
      rw [if_pos rfl, setSpoutState_item, (endOrder_at _ q _).1]
      simp [dropped, restartedSc, h]
    · rw [if_neg hq, (acts_setSpoutState _ sp .idle).sc q hq, (elsewhere_endOrder _ sp _).sc q hq]
      simp [dropped, PerSpout.get_set, hq]
  · rw [restartSpout_of_idle s sp h]
    split
    · next hq => simp [hq, restartedSc, h]
    · rfl

theorem endOrder_outputs (n : EndNotice) :
    (s.endOrder sp n).iob.coarseOut = s.iob.coarseOut ∧ (s.endOrder sp n).iob.fineOut = s.iob.fineOut ∧
      (s.endOrder sp n).iob.aeration = s.iob.aeration := by
  cases ha : (s.sc.get sp).active with
  | none => rw [endOrder_of_none _ sp ha]; exact ⟨rfl, rfl, rfl⟩
  | some i => rw [endOrder_of_some _ sp ha]; exact ⟨rfl, rfl, rfl⟩

theorem setSpoutState_rest (st : SpoutState) :
    (s.setSpoutState sp st).fa = s.fa ∧ (s.setSpoutState sp st).lwu = s.lwu ∧
      (s.setSpoutState sp st).iob.coarseOut = s.iob.coarseOut ∧
        (s.setSpoutState sp st).iob.fineOut = s.iob.fineOut ∧
          (s.setSpoutState sp st).iob.aeration = s.iob.aeration := ⟨rfl, rfl, rfl, rfl, rfl⟩

/-- A restart of a spout leaves the arbiter, the fixed outputs and the windows. -/
theorem restartSpout_rest :
    (s.restartSpout sp).fa = s.fa ∧ (s.restartSpout sp).lwu = s.lwu ∧
      (s.restartSpout sp).iob.coarseOut = s.iob.coarseOut ∧ (s.restartSpout sp).iob.fineOut = s.iob.fineOut ∧
        (s.restartSpout sp).iob.aeration = s.iob.aeration := by
  by_cases h : (s.sc.get sp).state.isActive = true
  · rw [restartSpout_of_active s sp h]
    obtain ⟨_, fa, lwu⟩ := endOrder_at (dropped s sp) sp (.abort ((dropped s sp).sc.get sp).reasons)
    obtain ⟨coarse, fine, aeration⟩ := endOrder_outputs (dropped s sp) sp (.abort ((dropped s sp).sc.get sp).reasons)
    obtain ⟨fa', lwu', coarse', fine', aeration'⟩ := setSpoutState_rest
      ((dropped s sp).endOrder sp (.abort ((dropped s sp).sc.get sp).reasons)) sp .idle
    exact ⟨fa'.trans fa, lwu'.trans lwu, coarse'.trans coarse, fine'.trans fine, aeration'.trans aeration⟩
  · rw [restartSpout_of_idle s sp h]
    exact ⟨rfl, rfl, rfl, rfl, rfl⟩

theorem ordersPlaced_restartSpout (ho : OrdersPlaced s) : OrdersPlaced (s.restartSpout sp) := by
  by_cases h : (s.sc.get sp).state.isActive = true
  · obtain ⟨i, hi⟩ : ∃ i, (s.sc.get sp).active = some i := by
      obtain ⟨_, _, _, _, held, _⟩ := ho.1 sp
      exact Option.isSome_iff_exists.1 (held.trans h)
    have hi' : ((dropped s sp).sc.get sp).active = some i := by simpa [dropped] using hi
    have sc := restartSpout_sc s sp
    rw [restartSpout_of_active s sp h, endOrder_of_some _ sp hi'] at sc ⊢
    refine ordersPlaced_of_end ho hi (r := (s.ot.slot i).ended (.abort ((dropped s sp).sc.get sp).reasons) s.msTime)
      rfl (ended_state _ _ _) (ended_spout _ _ _) ?_ (fun q hq => ?_) ?_ ?_ fun q hq => ?_
    · simp [setSpoutState_eq, enters, tracked]
    · simp [setSpoutState_eq, enters, dropped, PerSpout.get_set, hq]
    · rw [sc, if_pos rfl]; simp [restartedSc, h]
    · rw [sc, if_pos rfl]; exact restartedSc_state _
    · rw [sc, if_neg hq]
  · rw [restartSpout_of_idle s sp h]
    exact ho

end

section
variable (s : State)

/-- The loads of all four spouts ended (R106). -/
def loadsEnded (s : State) : State := Spout.all.foldl (fun s sp => s.restartSpout sp) s

theorem loadsEnded_sc (q : Spout) : (loadsEnded s).sc.get q = restartedSc (s.sc.get q) := by
  simp only [loadsEnded, Spout.all, List.foldl_cons, List.foldl_nil, restartSpout_sc]
  cases q <;> simp

theorem loadsEnded_rest :
    (loadsEnded s).fa = s.fa ∧ (loadsEnded s).lwu = s.lwu ∧ (loadsEnded s).iob.coarseOut = s.iob.coarseOut ∧
      (loadsEnded s).iob.fineOut = s.iob.fineOut ∧ (loadsEnded s).iob.aeration = s.iob.aeration := by
  simp only [loadsEnded, Spout.all, List.foldl_cons, List.foldl_nil, restartSpout_rest, and_self]

theorem tells_loadsEnded : Tells s (loadsEnded s) := Tells.foldl tells_restartSpout _ s

theorem ordersPlaced_loadsEnded (h : OrdersPlaced s) : OrdersPlaced (loadsEnded s) :=
  ordersPlaced_restartSpout _ _ (ordersPlaced_restartSpout _ _ (ordersPlaced_restartSpout _ _
    (ordersPlaced_restartSpout _ _ h)))

/-! ### The windows (R174) -/

variable (l : Lane)

theorem tells_abandonWindow : Tells s (s.abandonWindow l) := by
  have dropped : Tells s (s.updWindow l fun w => { w with timer := none, claims := ⟨false, false⟩ }) :=
    tells_updWindow s
  unfold State.abandonWindow
  refine Tells.ite (fun _ => .refl s) fun _ => ?_
  exact (dropped.trans ((tells_updLwu _).trans (tells_pushEvent _ _ _))).trans (tells_moveWindow _ l _)

theorem abandonWindow_rest :
    (s.abandonWindow l).sc = s.sc ∧ (s.abandonWindow l).fa = s.fa ∧ (s.abandonWindow l).ot = s.ot ∧
      (s.abandonWindow l).fc = s.fc ∧ (s.abandonWindow l).iob.coarseOut = s.iob.coarseOut ∧
        (s.abandonWindow l).iob.fineOut = s.iob.fineOut ∧ (s.abandonWindow l).iob.aeration = s.iob.aeration := by
  unfold State.abandonWindow
  split <;> exact ⟨rfl, rfl, rfl, rfl, rfl, rfl, rfl⟩

/-- A window that is abandoned is CLOSED with neither timer nor claims; a CLOSED one, and the other lane's, stay. -/
theorem abandonWindow_window (m : Lane) :
    let w := (s.lwu.get m).window
    let v := ((s.abandonWindow l).lwu.get m).window
    v = w ∨ m = l ∧ v.state = .closed ∧ v.timer = none ∧ v.claims = ⟨false, false⟩ := by
  intro w v
  by_cases h : (s.lwu.get l).window.state = .closed
  · exact .inl (by simp only [v, w, State.abandonWindow, if_pos h])
  · by_cases hm : m = l
    · subst hm
      refine .inr ⟨rfl, ?_⟩
      simp [v, State.abandonWindow, if_neg h, State.moveWindow, State.reportResult]
    · refine .inl ?_
      simp [v, w, State.abandonWindow, if_neg h, State.moveWindow, State.reportResult, PerLane.get_set, hm]

/-- An abandoned window is CLOSED. -/
theorem abandonWindow_closed : ((s.abandonWindow l).lwu.get l).window.state = .closed := by
  unfold State.abandonWindow
  split
  · assumption
  · simp [State.moveWindow]

end

section
variable (s : State)

/-- Both windows abandoned (R174). -/
def windowsAbandoned (s : State) : State := Lane.all.foldl (fun s l => s.abandonWindow l) s

theorem windowsAbandoned_rest :
    (windowsAbandoned s).sc = s.sc ∧ (windowsAbandoned s).fa = s.fa ∧ (windowsAbandoned s).ot = s.ot ∧
      (windowsAbandoned s).fc = s.fc ∧ (windowsAbandoned s).iob.coarseOut = s.iob.coarseOut ∧
        (windowsAbandoned s).iob.fineOut = s.iob.fineOut ∧
          (windowsAbandoned s).iob.aeration = s.iob.aeration := by
  simp only [windowsAbandoned, Lane.all, List.foldl_cons, List.foldl_nil, abandonWindow_rest, and_self]

theorem tells_windowsAbandoned : Tells s (windowsAbandoned s) := Tells.foldl tells_abandonWindow _ s

/-- After a warm restart every window is CLOSED, with neither timer nor claims if it was placed before. -/
theorem windowsAbandoned_window (m : Lane) :
    ((windowsAbandoned s).lwu.get m).window.state = .closed ∧
      ((windowsAbandoned s).lwu.get m).window = (s.lwu.get m).window ∨
    ((windowsAbandoned s).lwu.get m).window.state = .closed ∧
      ((windowsAbandoned s).lwu.get m).window.timer = none ∧
        ((windowsAbandoned s).lwu.get m).window.claims = ⟨false, false⟩ := by
  simp only [windowsAbandoned, Lane.all, List.foldl_cons, List.foldl_nil]
  have first := abandonWindow_window s .l1
  have second := abandonWindow_window (s.abandonWindow .l1) .l2
  have closed := abandonWindow_closed s .l1
  have closed' := abandonWindow_closed (s.abandonWindow .l1) .l2
  cases m
  · have kept := (second .l1).resolve_right fun h => nomatch h.1
    rw [kept]
    exact (first .l1).imp (fun h => ⟨closed, h⟩) And.right
  · have kept := (first .l2).resolve_right fun h => nomatch h.1
    exact (second .l2).imp (fun h => ⟨closed', h.trans kept⟩) And.right

/-- The loads ended and the windows abandoned with the arbiter emptied (R106, R153, R174). -/
def loadsDropped (s : State) : State :=
  windowsAbandoned (loadsEnded (s.updFa fun f => { f with holders := .fill false, requests := [] }))

theorem warmRestart_eq (cause : ResetCause) :
    s.warmRestart cause =
      loadsDropped (Spout.all.foldl (fun s sp => s.outputsOff sp)
        ((({ s with msBase := s.now } : State).updSl fun l =>
          l.restarted s.rst.strapAddress s.rst.strapRate).pushEvent .station (.restarted true cause))) := rfl

theorem loadsDropped_sc (q : Spout) : (loadsDropped s).sc.get q = restartedSc (s.sc.get q) := by
  rw [loadsDropped, (windowsAbandoned_rest _).1, loadsEnded_sc]
  rfl

theorem loadsDropped_fa : (loadsDropped s).fa = { s.fa with holders := .fill false, requests := [] } := by
  rw [loadsDropped, (windowsAbandoned_rest _).2.1, (loadsEnded_rest _).1]
  rfl

theorem loadsDropped_outputs :
    (loadsDropped s).iob.coarseOut = s.iob.coarseOut ∧ (loadsDropped s).iob.fineOut = s.iob.fineOut ∧
      (loadsDropped s).iob.aeration = s.iob.aeration := by
  obtain ⟨_, _, _, _, coarse, fine, aeration⟩ :=
    windowsAbandoned_rest (loadsEnded (s.updFa fun f => { f with holders := .fill false, requests := [] }))
  obtain ⟨_, _, coarse', fine', aeration'⟩ :=
    loadsEnded_rest (s.updFa fun f => { f with holders := .fill false, requests := [] })
  exact ⟨coarse.trans coarse', fine.trans fine', aeration.trans aeration'⟩

theorem tells_emptied : Tells s (s.updFa fun f => { f with holders := .fill false, requests := [] }) :=
  tells_updFa s fun _ => by simp [Fa.holderCount, PerSpout.fill, PerSpout.toList]

theorem tells_loadsDropped : Tells s (loadsDropped s) :=
  ((tells_emptied s).trans (tells_loadsEnded _)).trans (tells_windowsAbandoned _)

/-- With the outputs off, all that a warm restart ends is placed: every spout is IDLE and every window CLOSED. -/
theorem work_loadsDropped
    (hoff : ∀ sp, s.iob.coarseOut.get sp = false ∧ s.iob.fineOut.get sp = false ∧ s.iob.aeration.get sp = false) :
    Work s (loadsDropped s) := by
  have told := tells_loadsDropped s
  have sc := loadsDropped_sc s
  have fa := loadsDropped_fa s
  have idle : ∀ q, ((loadsDropped s).sc.get q).state = .idle := fun q => by rw [sc]; exact restartedSc_state _
  obtain ⟨coarse, fine, aeration⟩ := loadsDropped_outputs s
  refine ⟨⟨told.toKeeps, told.viewsExact (by rw [fa]), fun hp q => ?_, fun _ => ?_, fun _ ho => ?_, fun _ _ hs q => ?_⟩,
    fun _ hw l => ?_⟩
  · obtain ⟨offC, offF, offA⟩ := hoff q
    have grant : (restartedSc (s.sc.get q)).grantHeld = false := by
      have := (hp q).2.2.2.1
      unfold restartedSc
      split
      · rfl
      · next h => simpa [(not_isActive_iff _).1 h, SpoutState.isFlowing] using this
    simp [coarse, fine, aeration, offC, offF, offA, restartedSc_state, sc, grant, fa, SpoutState.isFlowing]
  · refine (feedPlaces_iff _).2 ⟨by rw [fa]; exact List.nodup_nil, fun q => ?_⟩
    simp [FeedPlacedAt, fa, idle]
  · have ended := ordersPlaced_loadsEnded (s.updFa fun f => { f with holders := .fill false, requests := [] }) ho
    obtain ⟨hsc, _, hot, hfc, _⟩ :=
      windowsAbandoned_rest (loadsEnded (s.updFa fun f => { f with holders := .fill false, requests := [] }))
    exact ordersPlaced_congr (.of_eq (by rw [loadsDropped, hot])) (by rw [loadsDropped, hot])
      (by rw [loadsDropped, hot]) (fun _ => by rw [loadsDropped, hsc]) (fun _ => by rw [loadsDropped, hsc])
      (fun _ => by rw [loadsDropped, hfc]) ended
  · rw [sc]; exact StagedIn.restarted (hs q)
  · have unclaimed : ∀ (claims : PerSide Bool), (∀ p, claims.get p = false) →
        ∀ p, claims.get p = true ↔ ((loadsDropped s).sc.get (l.spout p)).state = .tare := fun claims h p => by
      simp [h p, idle]
    have lwu : (loadsEnded (s.updFa fun f => { f with holders := .fill false, requests := [] })).lwu = s.lwu :=
      (loadsEnded_rest _).2.1
    have window := windowsAbandoned_window
      (loadsEnded (s.updFa fun f => { f with holders := .fill false, requests := [] })) l
    rw [lwu] at window
    rcases window with ⟨closed, same⟩ | ⟨closed, timer, claims⟩
    · obtain ⟨htimer, _, _, hnone, _⟩ := hw l
      rw [same] at closed
      have none := hnone (.inl closed)
      show WindowAt (loadsDropped s) l
      rw [WindowAt, loadsDropped, same, closed]
      rw [closed] at htimer
      exact ⟨htimer, unclaimed _ none, fun h => (nomatch h), fun _ => none, fun h => nomatch h⟩
    · have none : ∀ p, (⟨false, false⟩ : PerSide Bool).get p = false := fun p => by cases p <;> rfl
      show WindowAt (loadsDropped s) l
      rw [WindowAt, loadsDropped, closed, timer, claims]
      exact ⟨rfl, unclaimed _ none, fun h => (nomatch h), fun _ => none, fun h => nomatch h⟩

theorem work_outputsOff (sp : Spout) : Work s (s.outputsOff sp) := by
  have acts := acts_outputsOff s sp
  have sc : (s.outputsOff sp).sc = s.sc := by rw [State.outputsOff, commandOutputs_eq]
  have fa : (s.outputsOff sp).fa = s.fa := by rw [State.outputsOff, commandOutputs_eq]
  refine .of_onlyAt acts.toTells acts.toOnlyAt (fun hp => ?_) (fun hf => ?_) (fun _ => by rw [sc]) (fun _ => by rw [sc])
    fun _ _ hs => by rw [sc]; exact hs
  · have hat := (hp sp).2.2.2
    simpa [PermittedAt, State.outputsOff, commandOutputs_eq] using hat
  · rw [FeedPlacedAt, sc, fa]
    exact ((feedPlaces_iff s).1 hf).2 sp

theorem allOff (sp : Spout) :
    let t := Spout.all.foldl (fun s sp => s.outputsOff sp) s
    t.iob.coarseOut.get sp = false ∧ t.iob.fineOut.get sp = false ∧ t.iob.aeration.get sp = false := by
  simp only [Spout.all, List.foldl_cons, List.foldl_nil, State.outputsOff, commandOutputs_eq]
  cases sp <;> simp [PerSpout.get_set]

theorem serves_warmRestart (cause : ResetCause) : Serves s (s.warmRestart cause) := by
  rw [warmRestart_eq]
  refine Serves.trans ?_ (work_loadsDropped _ (allOff _)).serves
  refine Serves.trans ?_ (Work.foldl work_outputsOff _ _).serves
  refine Serves.trans (t := (({ s with msBase := s.now } : State).updSl fun l =>
    l.restarted s.rst.strapAddress s.rst.strapRate)) ⟨rfl, fun _ => upholds_clock rfl rfl⟩ (work_pushEvent _ _ _).serves

/-! ## The link (R177 to R181) -/

theorem serves_replyGone (p : PendingReply) : Serves s (s.replyGone p) :=
  Serves.ite (fun _ => serves_warmRestart s _) fun _ => .refl s

theorem serves_dropReply (p : PendingReply) : Serves s (s.dropReply p) :=
  (serves_updSl s _).trans (serves_replyGone _ p)

theorem serves_take (kind : Byte) {f : State → State × Reply} (h : Answers s (f s)) : Serves s (s.take kind f) := by
  unfold State.take State.answer
  exact h.serves.trans (serves_updSl _ _)

theorem upholds_request (kind : Byte) {f : State → State × Reply} (h : ∀ s, Answers s (f s)) :
    Upholds s (s.request kind f) := by
  refine Upholds.whenRunning ?_
  split
  · exact serves_take s kind (h s)
  · exact (serves_dropReply s _).trans (serves_take _ kind (h _))
  · exact .refl s

/-- Every request is answered, and what a refusal answers has changed nothing (R179, R182). -/
theorem answers_runRequest (i : Instr) : Answers s (runRequest i s) := by
  cases i with
  | readStation => exact answers_readStation s
  | configStation f => exact answers_configStation s f
  | configLane f => exact answers_configLane s f
  | configSpout f => exact answers_configSpout s f
  | readSpout spout options => exact answers_readSpout s spout options
  | setCalibration spout span zero corr => exact answers_setCalibration s spout span zero corr
  | zero spout => exact answers_zero s spout
  | loadOrder f => exact answers_loadOrder s f
  | start spout => exact answers_start s spout
  | stop spout => exact answers_stop s spout
  | withdrawVehicle tag => exact answers_withdraw s tag
  | readOrder slot => unfold runRequest readOrderRequest; dsimp only; split <;> exact .unchanged s _
  | releaseOrder slot => exact answers_release s slot
  | readEvents n => exact answers_readEvents s n
  | setOutputs on off => exact answers_setOutputs s on off
  | clearLockout spout => exact answers_clearLockout s spout
  | readLane lane => exact answers_readLane s lane
  | saveCalibration => exact answers_save s
  | _ => exact .unchanged s _

theorem serves_completeFrame (bytes : List Byte) : Serves s (s.completeFrame bytes) := by
  unfold State.completeFrame
  dsimp only
  have heard : Serves s (s.updSl fun l => { l with rx := .listen }) := serves_updSl s _
  refine heard.trans ?_
  split
  · exact serves_updSl _ _
  · exact .refl _
  · exact serves_take _ _ (.unchanged _ _)
  · exact serves_take _ _ (answers_runRequest _ _)

theorem serves_frameByte (bytes : List Byte) : Serves s (s.frameByte bytes) := by
  unfold State.frameByte
  refine Serves.ite (fun _ => serves_updSl s _) fun _ => Serves.ite (fun _ => serves_updSl s _) fun _ =>
    Serves.ite (fun _ => serves_updSl s _) fun _ => serves_completeFrame s bytes

theorem serves_startByte : Serves s s.startByte := by
  unfold State.startByte
  refine Serves.trans ?_ (serves_updSl _ _)
  split
  · exact serves_dropReply s _
  · exact .refl s

theorem serves_stationByte (b : Byte) : Serves s (s.stationByte b) := by
  unfold State.stationByte
  split
  · exact .refl s
  · exact Serves.ite (fun _ => serves_startByte s) fun _ => .refl s
  · exact serves_frameByte s _

/-! ## The resets (R193 to R195) -/

theorem cutOff_items (c : Cs) : c.cutOff.image.items = c.image.items ∧ c.cutOff.store = .idle := by
  unfold Cs.cutOff
  split
  · next h => exact ⟨rfl, h⟩
  · exact ⟨rfl, rfl⟩

/-- A reset begins with every output off and no write going on. -/
theorem upholds_enterReset (cause : ResetCause) : Upholds s (s.enterReset cause) where
  pending := rfl
  queue := id
  limit := id
  flow := id
  calibration := fun ⟨hlive, hitems, _⟩ => by
    obtain ⟨items, store⟩ := cutOff_items s.cs
    refine ⟨hlive, ?_, fun part copy limit h => ?_⟩
    · exact (congrArg ItemsCalibrated items).mpr hitems
    · exact nomatch store.symm.trans h
  lines := id
  gates h := (gatesSupervised_iff _).2 ⟨((gatesSupervised_iff s).1 h).1, fun hr => nomatch hr⟩
  outputs _ := by
    refine ⟨fun hr => (nomatch hr), fun _ => ⟨fun o ho => ?_, rfl, rfl, fun sp => by
      cases sp <;> exact ⟨rfl, rfl, rfl⟩⟩⟩
    simp only [State.enterReset, State.updRst_iob, State.updCs_iob, State.updIob_iob, Iob.outputs, Iob.off,
      PerSpout.map, PerAux.map, PerSpout.toList, PerAux.toList, List.cons_append, List.nil_append, List.mem_cons,
      List.not_mem_nil, or_false] at ho
    rcases ho with rfl | rfl | rfl | rfl | rfl | rfl | rfl | rfl <;> rfl
  views := id
  permitted h sp := by
    obtain ⟨_, _, _, hrest⟩ := h sp
    refine ⟨fun on => ?_, fun on => ?_, fun on => ?_, hrest⟩ <;> cases sp <;> exact nomatch on
  feed := id
  orders _ := id
  stages _ _ := id
  windows _ := id

theorem itemsCalibrated_default : ItemsCalibrated Items.default := by
  intro sp
  cases sp <;> simp [CalibrationIn, Items.default, SpoutItems.default, SpoutParams.default, PerSpout.get]

theorem itemsCalibrated_coldItems (h : CalibrationRanges s) : ItemsCalibrated s.cs.coldItems := by
  unfold Cs.coldItems
  split
  · exact h.2.1
  · exact itemsCalibrated_default

@[simp] theorem slot_cold (i : Fin 16) : Ot.cold.slot i = .cleared := by
  simp [Ot.cold, Ot.slot]

/-- Every block in its cold state meets what the properties ask of it (R195). -/
theorem upholds_coldBlocks {t : Items} (h : CalibrationRanges s → ItemsCalibrated t) :
    Upholds s (s.coldBlocks t) where
  pending := rfl
  queue _ := ⟨Nat.zero_le _, Nat.zero_le _⟩
  limit _ := by simp [GrantLimit, State.coldBlocks, Fa.cold, Spout.all]
  flow _ sp := by simp [State.coldBlocks, Fc.cold, roundedMean]
  calibration hs := by
    refine ⟨fun sp => ?_, hs.2.1, fun _ _ _ heq => nomatch heq⟩
    simpa [State.coldBlocks, Fc.cold] using h hs sp
  lines _ := by
    refine ⟨fun sp => ?_, fun l => ?_⟩
    · simp [State.coldBlocks, Slr.cold, FramingIn]
    · simp [State.coldBlocks, Lwu.cold, FramingIn]
  gates _ sp g := by
    cases g <;> simp [State.coldBlocks, State.gate, Iob.cold, coldGates, PerGate.get, commandedOpen]
  outputs _ := by
    refine ⟨fun _ => ⟨fun o ho => ?_, ?_, ?_⟩, fun hr => absurd rfl hr⟩
    · simp only [State.coldBlocks, Iob.cold, Iob.outputs, PerSpout.toList, PerAux.toList, List.cons_append,
        List.nil_append, List.mem_cons, List.not_mem_nil, or_false] at ho
      rcases ho with rfl | rfl | rfl | rfl | rfl | rfl | rfl | rfl <;> rfl
    · simp [State.coldBlocks, Iob.cold, Fa.cold]
    · simp [State.coldBlocks, Iob.cold]
  views _ := by
    refine ⟨fun sp => ?_, fun l => ?_, ?_⟩
    · simp [State.coldBlocks, Iob.cold, SourceViews.cold, Sc.cold, Ot.cold, SpoutState.isActive, SpoutState.isFlowing]
    · simp [State.coldBlocks, Iob.cold, SourceViews.cold, Lwu.cold, Window.cold]
    · simp [State.coldBlocks, Iob.cold, SourceViews.cold, Fa.cold]
  permitted _ sp := by
    simp [State.coldBlocks, Iob.cold, Sc.cold, Fa.cold, SpoutState.isFlowing]
  feed _ := by simp [FeedPlaces, State.coldBlocks, Fa.cold, Sc.cold]
  orders _ _ := by
    refine ⟨fun sp => ?_, fun i => ?_⟩
    · simp [State.coldBlocks, slot_cold, SlotRec.cleared, Sc.cold, Fc.cold, SpoutState.isActive]
      simp [Ot.cold]
    · simp [State.coldBlocks, SlotRec.cleared]
  stages _ _ _ sp := by simp [State.coldBlocks, Sc.cold, stageOf]
  windows _ _ l := by
    simp [State.coldBlocks, Lwu.cold, Window.cold, windowTimerOf, Sc.cold, Side.forall_iff, PerSide.get]

theorem work_settleAll : Work s s.settleAll := by
  unfold State.settleAll
  refine Work.ite (fun _ => ?_) fun _ => .refl s
  exact (Work.foldl work_settleInput _ s).trans (work_testGrant _)

theorem upholds_coldStart (cause : ResetCause) : Upholds s (s.coldStart cause) := by
  unfold State.coldStart
  dsimp only
  refine (upholds_coldBlocks s (itemsCalibrated_coldItems s)).trans (Work.serves ?_ |>.upholds rfl)
  refine Work.trans ?_ (work_settleAll _)
  refine (work_pushEvent _ _ _).trans (Work.ite (fun _ => .refl _) fun _ => work_pushEvent _ _ _)

theorem upholds_tryLeave : Upholds s s.tryLeave := by
  unfold State.tryLeave
  split
  · exact .refl s
  · split
    · exact .refl s
    · exact upholds_coldStart s _

/-- The raw level of an input commands nothing and places nothing, held or not (R41). -/
theorem upholds_setInput (i : InputId) (v : Input) : Upholds s (s.setInput i v) := by
  cases i <;>
    exact ⟨rfl, id, id, id, id, id, id, id, id, id, id, fun _ => id, fun _ _ => id, fun _ => id⟩

end

end Sys2Proof.Proofs

/-! Every command completes and keeps every property of a safe state. -/

namespace Sys2Proof.Proofs

open Sys2Proof.Machine Sys2Proof.Safety Sys2Proof.Laws

section
variable (s : State)

/-! ## The expiries -/

/-- Work done at a timer's expiry, and the grants that are then due. -/
theorem serves_expiry (t : Nat) {u : State} (h : Work (s.reach t) u) : Serves s u.testGrant :=
  (serves_reach s t).trans (h.trans (work_testGrant _)).serves

theorem serves_gap (t : Nat) {u : State} (h : Work (s.reach t) u) : Serves s u := (serves_reach s t).trans h.serves

/-- A stage timer's expiry, taken under its name and in a state that runs it (R81). -/
theorem upholds_stageExpiry {sp : Spout} {name : StageName} {states : List SpoutState} {f : State → State}
    (h : ∀ t, (t.sc.get sp).stage.map (·.name) = some name → (t.sc.get sp).state ∈ states → Work t (f t)) :
    Upholds s (s.stageExpiry sp name states f) := by
  refine Upholds.whenRunning ?_
  split
  · next n t hstage =>
    refine Serves.ite (fun ⟨hn, hst⟩ => ?_) fun _ => .refl s
    have hname : ((s.reach t).sc.get sp).stage.map (·.name) = some name := by simp [State.reach, hstage, hn]
    exact serves_expiry s t (h (s.reach t) hname hst)
  · exact .refl s

/-- The request of a spout that waits is withdrawn (R143). -/
theorem work_withdrawFeed (sp : Spout) : Work s (s.withdrawFeed sp) := by
  have acts := acts_withdrawFeed s sp
  refine .of_onlyAt acts.toTells acts.toOnlyAt (fun hp => hp sp) (fun hf => ?_) (fun _ => rfl) (fun _ => Iff.rfl)
    fun _ _ => id
  obtain ⟨_, hholder, hlockout⟩ := ((feedPlaces_iff s).1 hf).2 sp
  exact ⟨fun hr => by simp [State.withdrawFeed] at hr, hholder, hlockout⟩

theorem work_waitTimeout (sp : Spout) (r : AbortReason) : Work s ((s.withdrawFeed sp).abortCause sp r) :=
  (work_withdrawFeed s sp).trans (work_abortCause _ sp r)

theorem work_primeEnd {sp : Spout} (hst : (s.sc.get sp).state = .aerate) :
    Work s ((s.setStage sp none).primeDecision sp) := by
  have onGrant : OnGrant sp s (s.setStage sp none) := (OnGrant.of_flowing (by rw [hst]; rfl)).setStage none
  refine onGrant.primeDecision (by simpa using hst) (fun hp => ?_) fun hp => ?_
  · have hat := (hp sp).1
    simpa [hst] using hat
  · have hat := (hp sp).2.1
    simpa [hst] using hat

theorem serves_frameWatch (sp : Spout) :
    Serves s (match (s.slr.get sp).watch with
      | none => s
      | some t =>
        let s := s.reach t
        let s := s.updSlr sp fun r => { r with watch := some (s.now + Config.watchNext) }
        match (s.slr.get sp).line with
        | .live => (s.substitutePair sp).testGrant
        | .lost => s.updSlr sp Slr.breakRun) := by
  split
  · exact .refl s
  · next t _ =>
    have watched : Work (s.reach t)
        ((s.reach t).updSlr sp fun r => { r with watch := some ((s.reach t).now + Config.watchNext) }) :=
      work_updSlr _ id
    dsimp only
    split
    · next hlive => exact serves_expiry s t (watched.trans (work_substitutePair _ hlive))
    · exact serves_gap s t (watched.trans (work_breakRun _ sp))

theorem serves_lossTimer (l : Lane) :
    Serves s (match (s.lwu.get l).lossTimer with
      | none => s
      | some t =>
        let s := s.reach t
        let s := s.updLwu l fun u => { u with lossTimer := some (s.now + Config.bridgeLoss) }
        match (s.lwu.get l).line with
        | .live => s.bridgeLost l
        | .lost => s.updLwu l fun u => { u with restoreRun := 0 }) := by
  split
  · exact .refl s
  · next t _ =>
    have timed : Work (s.reach t)
        ((s.reach t).updLwu l fun u => { u with lossTimer := some ((s.reach t).now + Config.bridgeLoss) }) :=
      work_updLwu _
    dsimp only
    refine serves_gap s t (timed.trans ?_)
    split
    · exact work_bridgeLost _ l
    · exact work_updLwu _ rfl rfl rfl fun ⟨hf, _, _⟩ => ⟨hf, Nat.zero_le _, fun _ => rfl⟩

/-- A change of the supply, of a terminal or of its filter. -/
theorem upholds_updRst {f : Resets → Resets} (h : (f s.rst).held = s.rst.held) : Upholds s (s.updRst f) :=
  upholds_clock rfl h

theorem upholds_reach (t : Nat) : Upholds s (s.reach t) := upholds_clock rfl rfl

/-! ## Every command -/

theorem exec_upholds (c : Instr) : ∃ t, exec c s = .next t ∧ Upholds s t := by
  cases c with
  | sensorByteArrival sp b =>
    exact ⟨_, rfl, .whenRunning ((work_sensorByte s sp b).trans (work_testGrant _)).serves⟩
  | sensorCharacterError sp => exact ⟨_, rfl, .whenRunning (work_abandonSensor s sp).serves⟩
  | collectionGapExpiry sp =>
    refine ⟨_, rfl, .whenRunning ?_⟩
    split
    · exact .refl s
    · exact serves_gap s _ (work_abandonSensor _ sp)
  | frameWatchExpiry sp => exact ⟨_, rfl, .whenRunning (serves_frameWatch s sp)⟩
  | zeroTrackExpiry sp =>
    refine ⟨_, rfl, .whenRunning ?_⟩
    split
    · exact .refl s
    · next t _ => exact serves_gap s t ((work_updFc _).trans (work_trackZero _ sp))
  | inputRawChange i active =>
    refine ⟨_, rfl, ?_⟩
    split
    · exact .refl s
    · split
      · exact upholds_setInput s i _
      · next h =>
        exact ((work_rawChange s i active).trans (work_testGrant _)).serves.upholds (by simpa [Running] using h)
  | debounceExpiry i =>
    refine ⟨_, rfl, .whenRunning ?_⟩
    split
    · exact .refl s
    · exact serves_expiry s _ (work_settleInput _ i)
  | gateTravelExpiry sp g =>
    refine ⟨_, rfl, .whenRunning ?_⟩
    split
    · exact .refl s
    · exact serves_expiry s _ (work_gateOutcome _ (gateMoves_expire _))
  | readStation => exact ⟨_, rfl, upholds_request s _ answers_readStation⟩
  | configStation f => exact ⟨_, rfl, upholds_request s _ fun s => answers_configStation s f⟩
  | configLane f => exact ⟨_, rfl, upholds_request s _ fun s => answers_configLane s f⟩
  | configSpout f => exact ⟨_, rfl, upholds_request s _ fun s => answers_configSpout s f⟩
  | readSpout spout options => exact ⟨_, rfl, upholds_request s _ fun s => answers_readSpout s spout options⟩
  | setCalibration spout span zero corr =>
    exact ⟨_, rfl, upholds_request s _ fun s => answers_setCalibration s spout span zero corr⟩
  | zero spout => exact ⟨_, rfl, upholds_request s _ fun s => answers_zero s spout⟩
  | loadOrder f => exact ⟨_, rfl, upholds_request s _ fun s => answers_loadOrder s f⟩
  | start spout => exact ⟨_, rfl, upholds_request s _ fun s => answers_start s spout⟩
  | stop spout => exact ⟨_, rfl, upholds_request s _ fun s => answers_stop s spout⟩
  | withdrawVehicle tag => exact ⟨_, rfl, upholds_request s _ fun s => answers_withdraw s tag⟩
  | readOrder slot => exact ⟨_, rfl, upholds_request s _ fun s => answers_runRequest s (.readOrder slot)⟩
  | releaseOrder slot => exact ⟨_, rfl, upholds_request s _ fun s => answers_release s slot⟩
  | readEvents n => exact ⟨_, rfl, upholds_request s _ fun s => answers_readEvents s n⟩
  | setOutputs on off => exact ⟨_, rfl, upholds_request s _ fun s => answers_setOutputs s on off⟩
  | clearLockout spout => exact ⟨_, rfl, upholds_request s _ fun s => answers_clearLockout s spout⟩
  | readLane lane => exact ⟨_, rfl, upholds_request s _ fun s => answers_readLane s lane⟩
  | saveCalibration => exact ⟨_, rfl, upholds_request s _ answers_save⟩
  | restart => exact ⟨_, rfl, upholds_request s _ fun s => .unchanged s _⟩
  | feedWaitExpiry sp => exact ⟨_, rfl, upholds_stageExpiry s fun t _ _ => work_waitTimeout t sp _⟩
  | primeExpiry sp =>
    exact ⟨_, rfl, upholds_stageExpiry s fun t _ hst => work_primeEnd t (List.mem_singleton.1 hst)⟩
  | settleExpiry sp =>
    exact ⟨_, rfl, upholds_stageExpiry s fun t hname hst => work_settleDecision (by simpa using hst) hname⟩
  | suspendExpiry sp => exact ⟨_, rfl, upholds_stageExpiry s fun t _ _ => work_waitTimeout t sp _⟩
  | weighbridgeByteArrival l b =>
    exact ⟨_, rfl, .whenRunning ((work_bridgeByte s l b).trans (work_testGrant _)).serves⟩
  | weighbridgeCharacterError l => exact ⟨_, rfl, .whenRunning (work_abandonBridge s l).serves⟩
  | weighbridgeGapExpiry l =>
    refine ⟨_, rfl, .whenRunning ?_⟩
    split
    · exact .refl s
    · exact serves_gap s _ (work_abandonBridge _ l)
  | lossTimerExpiry l => exact ⟨_, rfl, .whenRunning (serves_lossTimer s l)⟩
  | tareTimerExpiry l =>
    refine ⟨_, rfl, .whenRunning ?_⟩
    split
    · next t htimer =>
      refine serves_expiry s t (work_openWindow _ l none fun hw => ?_)
      have named := (hw l).1
      have timer : ((s.reach t).lwu.get l).window.timer = some ⟨.tare, t⟩ := htimer
      rw [timer] at named
      cases hst : ((s.reach t).lwu.get l).window.state with
      | taring => rfl
      | closed | opened | weighing => rw [hst] at named; exact nomatch named
    · exact .refl s
  | grossTimerExpiry l =>
    refine ⟨_, rfl, .whenRunning ?_⟩
    split
    · exact serves_expiry s _ (work_closeWindow _ l none)
    · exact .refl s
  | stationByteArrival b => exact ⟨_, rfl, .whenRunning (serves_stationByte s b)⟩
  | stationCharacterError =>
    refine ⟨_, rfl, .whenRunning ?_⟩
    split
    · exact .refl s
    · exact .refl s
    · exact serves_updSl s _
  | stationGapExpiry =>
    refine ⟨_, rfl, .whenRunning ?_⟩
    split
    · exact .refl s
    · exact (serves_reach s _).trans (serves_updSl _ _)
  | turnaroundExpiry =>
    refine ⟨_, rfl, .whenRunning ?_⟩
    split
    · exact (serves_reach s _).trans (serves_updSl _ _)
    · exact .refl s
  | replySent =>
    refine ⟨_, rfl, .whenRunning ?_⟩
    split
    · exact (serves_updSl s _).trans (serves_replyGone _ _)
    · exact .refl s
  | storePartComplete => exact ⟨_, rfl, .whenRunning (work_partComplete s).serves⟩
  | storeWriteComplete held => exact ⟨_, rfl, .whenRunning (work_writeComplete s held).serves⟩
  | storePartTimeout =>
    refine ⟨_, rfl, .whenRunning ?_⟩
    split
    · exact serves_gap s _ (work_storeFails _)
    · exact .refl s
  | supplyFall =>
    refine ⟨_, rfl, ?_⟩
    split
    · exact (upholds_updRst s rfl).trans (upholds_enterReset _ _)
    · exact .refl s
  | supplyStableExpiry =>
    refine ⟨_, rfl, ?_⟩
    split
    · exact .refl s
    · exact ((upholds_reach s _).trans (upholds_updRst _ rfl)).trans (upholds_tryLeave _)
  | resetTerminalChange asserted => exact ⟨_, rfl, upholds_updRst s rfl⟩
  | resetFilterExpiry =>
    refine ⟨_, rfl, ?_⟩
    split
    · exact .refl s
    · exact ((upholds_reach s _).trans (upholds_updRst _ rfl)).trans (upholds_tryLeave _)
  | resetAssertExpiry =>
    refine ⟨_, rfl, ?_⟩
    split
    · exact .refl s
    · next t _ =>
      have asserted := (upholds_reach s t).trans (upholds_updRst (s.reach t)
        (f := fun r => { r with reset := { r.reset with assertion := none } }) rfl)
      dsimp only
      split
      · exact asserted
      · exact asserted.trans (upholds_enterReset _ _)
  | warmTerminalChange asserted =>
    refine ⟨_, rfl, ?_⟩
    split
    · exact upholds_updRst s rfl
    · exact upholds_updRst s rfl
  | warmFilterExpiry =>
    refine ⟨_, rfl, .whenRunning ?_⟩
    split
    · exact .refl s
    · exact ⟨rfl, fun _ => (upholds_reach s _).trans (upholds_updRst _ rfl)⟩
  | warmAssertExpiry =>
    refine ⟨_, rfl, .whenRunning ?_⟩
    split
    · exact .refl s
    · next t _ =>
      have asserted : Serves s ((s.reach t).updWarm fun r => { r with assertion := none }) :=
        ⟨rfl, fun _ => (upholds_reach s t).trans (upholds_updRst _ rfl)⟩
      exact asserted.trans (serves_warmRestart _ _)
  | supplyRise =>
    refine ⟨_, rfl, ?_⟩
    split
    · exact .refl s
    · exact upholds_updRst s rfl

end

end Sys2Proof.Proofs

/-! No command leaves a grant due, and what every step keeps. -/

namespace Sys2Proof.Proofs

open Sys2Proof.Machine Sys2Proof.Safety Sys2Proof.Laws

/-! ## Grants that are due are given (R141) -/

theorem grantsSettled_of_fa {s t : State} (h : t.fa = s.fa) : GrantsSettled s → GrantsSettled t := by
  simp only [GrantsSettled, h]
  exact id

theorem grantsSettled_of_empty {s : State} (h : s.fa.requests = []) : GrantsSettled s := fun _ hr => absurd h hr

/-- As many turns as spouts wait are enough (R141). -/
theorem grantsSettled_grantTurns (n : Nat) (s : State) (h : s.fa.requests.length ≤ n) :
    GrantsSettled (State.grantTurns n s) := by
  induction n generalizing s with
  | zero => exact grantsSettled_of_empty (List.eq_nil_of_length_eq_zero (Nat.le_zero.1 h))
  | succ n ih =>
    rw [State.grantTurns]
    split
    · next hr => exact grantsSettled_of_empty hr
    · next sp rest hr =>
      split
      · refine ih _ ?_
        rw [takeGrant_eq, granted_requests]
        rw [hr, List.length_cons] at h
        exact Nat.le_of_succ_le_succ h
      · next hno =>
        intro hc _
        rw [not_and_or, Nat.not_lt, holderCount_eq] at hno
        exact hno.resolve_left (not_not.2 hc)

theorem grantsSettled_testGrant (s : State) : GrantsSettled s.testGrant := grantsSettled_grantTurns _ s le_rfl

section
variable {s : State}

theorem grantsSettled_whenRunning {f : State → State} (h : GrantsSettled s → GrantsSettled (f s)) :
    GrantsSettled s → GrantsSettled (s.whenRunning f) := by
  unfold State.whenRunning
  split
  · exact id
  · exact h

theorem warmRestart_requests (s : State) (cause : ResetCause) : (s.warmRestart cause).fa.requests = [] := by
  rw [warmRestart_eq, loadsDropped_fa]

theorem grantsSettled_replyGone (p : PendingReply) (h : GrantsSettled s) : GrantsSettled (s.replyGone p) := by
  unfold State.replyGone
  split
  · exact grantsSettled_of_empty (warmRestart_requests s _)
  · exact h

theorem grantsSettled_dropReply (p : PendingReply) (h : GrantsSettled s) : GrantsSettled (s.dropReply p) := by
  unfold State.dropReply
  exact grantsSettled_replyGone p (grantsSettled_of_fa rfl h)

/-- A request's step leaves no grant due that was not due before. -/
def AnswersSettled (f : State → State × Reply) : Prop := ∀ s, GrantsSettled s → GrantsSettled (f s).1

theorem AnswersSettled.of_fa {f : State → State × Reply} (h : ∀ s, (f s).1.fa = s.fa) : AnswersSettled f :=
  fun s => grantsSettled_of_fa (h s)

theorem grantsSettled_take (kind : Byte) {f : State → State × Reply} (hf : AnswersSettled f) (h : GrantsSettled s) :
    GrantsSettled (s.take kind f) := grantsSettled_of_fa rfl (hf s h)

theorem grantsSettled_request (kind : Byte) {f : State → State × Reply} (hf : AnswersSettled f) :
    GrantsSettled s → GrantsSettled (s.request kind f) := by
  refine grantsSettled_whenRunning fun h => ?_
  split
  · exact grantsSettled_take kind hf h
  · exact grantsSettled_take kind hf (grantsSettled_dropReply _ h)
  · exact h

theorem withSpout_fa (b : Byte) (s : State) {f : Spout → State × Reply} (h : ∀ sp, (f sp).1.fa = s.fa) :
    (withSpout b s f).1.fa = s.fa := by
  unfold withSpout
  split
  · rfl
  · exact h _

theorem withLane_fa (b : Byte) (s : State) {f : Lane → State × Reply} (h : ∀ l, (f l).1.fa = s.fa) :
    (withLane b s f).1.fa = s.fa := by
  unfold withLane
  split
  · rfl
  · exact h _

theorem AnswersSettled.withSpout (b : Byte) {f : State → Spout → State × Reply}
    (h : ∀ sp, AnswersSettled fun s => f s sp) : AnswersSettled fun s => withSpout b s (f s) := by
  intro s hs
  simp only [Machine.withSpout]
  split
  · exact hs
  · exact h _ s hs

/-! ### The requests -/

theorem setReports_fa (s : State) (enables : BitVec 24) : (s.setReports enables).fa = s.fa := by
  have fold : ∀ (is : List InputId) (s : State),
      (is.foldl (fun s i => s.setInput i { s.input i with report := enables.getLsbD (enableBit i) }) s).fa = s.fa := by
    intro is
    induction is with
    | nil => exact fun _ => rfl
    | cons i is ih =>
      intro s
      rw [List.foldl_cons, ih]
      cases i <;> rfl
  exact fold _ s

theorem settled_configStation (f : StationFields) : AnswersSettled (configStationRequest f) := by
  intro s hs
  unfold configStationRequest
  dsimp only
  split
  · exact hs
  · next h =>
    rw [not_and_or, not_not, Bool.not_eq_true] at h
    have fa := setReports_fa (((s.updFa fun a => { a with g := (storeStation f).g.toNat }).updSl fun l =>
      { l with turnaround := (storeStation f).turnaround.toNat }).updIob fun b =>
        { b with debounce := (storeStation f).debounce.toNat }.setAux f.aux) f.enables
    rcases h with hg | hbusy
    · refine grantsSettled_of_fa ?_ hs
      rw [State.updRq_fa, fa]
      show { s.fa with g := (storeStation f).g.toNat } = s.fa
      rw [hg]
    · refine grantsSettled_of_empty ?_
      rw [State.updRq_fa, fa]
      simp only [Fa.busy, Bool.or_eq_false_iff, decide_eq_false_iff_not, not_not] at hbusy
      exact hbusy.2

theorem captureZero_fa (s : State) (sp : Spout) : (s.captureZero sp).fa = s.fa := by
  unfold State.captureZero
  dsimp only
  split
  · rfl
  · split <;> rfl

theorem settled_zero (spout : Byte) : AnswersSettled (zeroRequest spout) := by
  refine .of_fa fun s => withSpout_fa _ s fun sp => ?_
  split
  · rfl
  · split
    · rfl
    · split
      · rfl
      · exact captureZero_fa s sp

theorem settled_loadOrder (f : OrderFields) : AnswersSettled (loadOrderRequest f) := by
  refine .of_fa fun s => ?_
  unfold loadOrderRequest
  split
  · rfl
  · refine withSpout_fa _ s fun sp => ?_
    split
    · rfl
    · split
      · rfl
      · split
        · rfl
        · split <;> rfl

theorem settled_start (spout : Byte) : AnswersSettled (startRequest spout) := by
  refine .withSpout spout fun sp s hs => ?_
  dsimp only
  split
  · exact hs
  · split
    · exact hs
    · split
      · exact hs
      · split
        · exact hs
        · split
          · exact hs
          · split
            · exact hs
            · exact grantsSettled_testGrant _

theorem settled_stop (spout : Byte) : AnswersSettled (stopRequest spout) := by
  refine .withSpout spout fun sp s hs => ?_
  dsimp only
  split
  · exact hs
  · exact grantsSettled_testGrant _

theorem settled_withdraw (tag : List Byte) : AnswersSettled (withdrawRequest tag) := by
  intro s hs
  unfold withdrawRequest
  split
  · exact hs
  · split
    · exact hs
    · exact grantsSettled_testGrant _

theorem settled_release (slot : Byte) : AnswersSettled (releaseRequest slot) := by
  refine .of_fa fun s => ?_
  unfold releaseRequest
  split
  · rfl
  · dsimp only
    split
    · dsimp only
      split
      · rfl
      · exact (forgetEnded_rest _ _ _).2.1
    · rfl

theorem settled_readOrder (slot : Byte) : AnswersSettled (readOrderRequest slot) := by
  refine .of_fa fun s => ?_
  unfold readOrderRequest
  split <;> rfl

theorem settled_readEvents (n : Byte) : AnswersSettled (readEventsRequest n) := by
  refine .of_fa fun s => ?_
  unfold readEventsRequest
  split <;> rfl

theorem settled_save : AnswersSettled saveRequest := by
  refine .of_fa fun s => ?_
  unfold saveRequest
  split <;> rfl

theorem settled_runRequest (i : Instr) : AnswersSettled (runRequest i) := by
  cases i with
  | configStation f => exact settled_configStation f
  | configLane f => exact .of_fa fun s => withLane_fa _ s fun l => by dsimp only; split <;> rfl
  | configSpout f => exact .of_fa fun s => withSpout_fa _ s fun sp => by split <;> rfl
  | readSpout spout options => exact .of_fa fun s => withSpout_fa _ s fun sp => by dsimp only; split <;> rfl
  | setCalibration spout span zero corr => exact .of_fa fun s => withSpout_fa _ s fun sp => by split <;> rfl
  | zero spout => exact settled_zero spout
  | loadOrder f => exact settled_loadOrder f
  | start spout => exact settled_start spout
  | stop spout => exact settled_stop spout
  | withdrawVehicle tag => exact settled_withdraw tag
  | readOrder slot => exact settled_readOrder slot
  | releaseOrder slot => exact settled_release slot
  | readEvents n => exact settled_readEvents n
  | clearLockout spout =>
    refine .of_fa fun s => withSpout_fa _ s fun sp => ?_
    dsimp only
    split
    · rfl
    · split
      · rfl
      · split <;> rfl
  | readLane lane => exact .of_fa fun s => withLane_fa _ s fun _ => rfl
  | saveCalibration => exact settled_save
  | _ => exact .of_fa fun _ => rfl

/-! ### The link and the resets -/

theorem grantsSettled_completeFrame (bytes : List Byte) (h : GrantsSettled s) : GrantsSettled (s.completeFrame bytes) := by
  unfold State.completeFrame
  dsimp only
  split
  · exact grantsSettled_of_fa rfl h
  · exact grantsSettled_of_fa rfl h
  · exact grantsSettled_take _ (.of_fa fun _ => rfl) (grantsSettled_of_fa rfl h)
  · exact grantsSettled_take _ (settled_runRequest _) (grantsSettled_of_fa rfl h)

theorem grantsSettled_stationByte (b : Byte) (h : GrantsSettled s) : GrantsSettled (s.stationByte b) := by
  unfold State.stationByte
  split
  · exact h
  · split
    · unfold State.startByte
      refine grantsSettled_of_fa (State.updSl_fa _ _) ?_
      split
      · exact grantsSettled_dropReply _ h
      · exact h
    · exact h
  · unfold State.frameByte
    dsimp only
    split
    · exact grantsSettled_of_fa rfl h
    · split
      · exact grantsSettled_of_fa rfl h
      · split
        · exact grantsSettled_of_fa rfl h
        · exact grantsSettled_completeFrame _ h

/-- With a debounce time of 0 the test for a grant ends the settling of the inputs (R45). -/
theorem grantsSettled_settleAll (h : GrantsSettled s) : GrantsSettled s.settleAll := by
  unfold State.settleAll
  split
  · exact grantsSettled_testGrant _
  · exact h

/-- At the end of a cold reset no spout waits (R152). -/
theorem grantsSettled_coldStart (s : State) (cause : ResetCause) : GrantsSettled (s.coldStart cause) := by
  unfold State.coldStart
  dsimp only
  refine grantsSettled_settleAll (grantsSettled_of_empty ?_)
  split
  · rfl
  · rfl

theorem grantsSettled_tryLeave (h : GrantsSettled s) : GrantsSettled s.tryLeave := by
  unfold State.tryLeave
  split
  · exact h
  · split
    · exact h
    · exact grantsSettled_coldStart s _

theorem abandonSensor_fa (s : State) (sp : Spout) : (s.abandonSensor sp).fa = s.fa := by
  unfold State.abandonSensor
  split <;> rfl

theorem abandonBridge_fa (s : State) (l : Lane) : (s.abandonBridge l).fa = s.fa := by
  unfold State.abandonBridge
  split <;> rfl

theorem trackZero_fa (s : State) (sp : Spout) : (s.trackZero sp).fa = s.fa := by
  unfold State.trackZero
  dsimp only
  split
  · rfl
  · split
    · rfl
    · split <;> rfl

theorem grantsSettled_stageExpiry {sp : Spout} {name : StageName} {states : List SpoutState} {f : State → State} :
    GrantsSettled s → GrantsSettled (s.stageExpiry sp name states f) := by
  refine grantsSettled_whenRunning fun h => ?_
  split
  · split
    · exact grantsSettled_testGrant _
    · exact h
  · exact h

/-! ### Every command -/

theorem exec_settles (c : Instr) {s t : State} (h : exec c s = .next t) : GrantsSettled s → GrantsSettled t := by
  cases c with
  | sensorByteArrival sp b =>
    cases h; exact grantsSettled_whenRunning fun _ => grantsSettled_testGrant _
  | sensorCharacterError sp =>
    cases h; exact grantsSettled_whenRunning (grantsSettled_of_fa (abandonSensor_fa s sp))
  | collectionGapExpiry sp =>
    cases h
    refine grantsSettled_whenRunning fun h => ?_
    split
    · exact h
    · exact grantsSettled_of_fa (abandonSensor_fa _ sp) (s := State.reach s _) h
  | frameWatchExpiry sp =>
    cases h
    refine grantsSettled_whenRunning fun h => ?_
    split
    · exact h
    · dsimp only
      split
      · exact grantsSettled_testGrant _
      · exact grantsSettled_of_fa rfl h
  | zeroTrackExpiry sp =>
    cases h
    refine grantsSettled_whenRunning fun h => ?_
    split
    · exact h
    · exact grantsSettled_of_fa (trackZero_fa _ sp) (grantsSettled_of_fa (s := s) rfl h)
  | inputRawChange i active =>
    cases h
    intro h
    split
    · exact h
    · split
      · exact grantsSettled_of_fa (by cases i <;> rfl) h
      · exact grantsSettled_testGrant _
  | debounceExpiry i =>
    cases h
    refine grantsSettled_whenRunning fun h => ?_
    split
    · exact h
    · exact grantsSettled_testGrant _
  | gateTravelExpiry sp g =>
    cases h
    refine grantsSettled_whenRunning fun h => ?_
    split
    · exact h
    · exact grantsSettled_testGrant _
  | readStation => cases h; exact grantsSettled_request _ (settled_runRequest .readStation)
  | configStation f => cases h; exact grantsSettled_request _ (settled_configStation f)
  | configLane f => cases h; exact grantsSettled_request _ (settled_runRequest (.configLane f))
  | configSpout f => cases h; exact grantsSettled_request _ (settled_runRequest (.configSpout f))
  | readSpout spout options =>
    cases h; exact grantsSettled_request _ (settled_runRequest (.readSpout spout options))
  | setCalibration spout span zero corr =>
    cases h; exact grantsSettled_request _ (settled_runRequest (.setCalibration spout span zero corr))
  | zero spout => cases h; exact grantsSettled_request _ (settled_zero spout)
  | loadOrder f => cases h; exact grantsSettled_request _ (settled_loadOrder f)
  | start spout => cases h; exact grantsSettled_request _ (settled_start spout)
  | stop spout => cases h; exact grantsSettled_request _ (settled_stop spout)
  | withdrawVehicle tag => cases h; exact grantsSettled_request _ (settled_withdraw tag)
  | readOrder slot => cases h; exact grantsSettled_request _ (settled_runRequest (.readOrder slot))
  | releaseOrder slot => cases h; exact grantsSettled_request _ (settled_release slot)
  | readEvents n => cases h; exact grantsSettled_request _ (settled_runRequest (.readEvents n))
  | setOutputs on off => cases h; exact grantsSettled_request _ (settled_runRequest (.setOutputs on off))
  | clearLockout spout => cases h; exact grantsSettled_request _ (settled_runRequest (.clearLockout spout))
  | readLane lane => cases h; exact grantsSettled_request _ (settled_runRequest (.readLane lane))
  | saveCalibration => cases h; exact grantsSettled_request _ (settled_runRequest .saveCalibration)
  | restart => cases h; exact grantsSettled_request _ (.of_fa fun _ => rfl)
  | feedWaitExpiry sp => cases h; exact grantsSettled_stageExpiry
  | primeExpiry sp => cases h; exact grantsSettled_stageExpiry
  | settleExpiry sp => cases h; exact grantsSettled_stageExpiry
  | suspendExpiry sp => cases h; exact grantsSettled_stageExpiry
  | weighbridgeByteArrival l b => cases h; exact grantsSettled_whenRunning fun _ => grantsSettled_testGrant _
  | weighbridgeCharacterError l =>
    cases h; exact grantsSettled_whenRunning (grantsSettled_of_fa (abandonBridge_fa s l))
  | weighbridgeGapExpiry l =>
    cases h
    refine grantsSettled_whenRunning fun h => ?_
    split
    · exact h
    · exact grantsSettled_of_fa (abandonBridge_fa _ l) (s := State.reach s _) h
  | lossTimerExpiry l =>
    cases h
    refine grantsSettled_whenRunning fun h => ?_
    split
    · exact h
    · dsimp only
      split
      · exact grantsSettled_of_fa rfl h
      · exact grantsSettled_of_fa rfl h
  | tareTimerExpiry l =>
    cases h
    refine grantsSettled_whenRunning fun h => ?_
    split
    · exact grantsSettled_testGrant _
    · exact h
  | grossTimerExpiry l =>
    cases h
    refine grantsSettled_whenRunning fun h => ?_
    split
    · exact grantsSettled_testGrant _
    · exact h
  | stationByteArrival b => cases h; exact grantsSettled_whenRunning (grantsSettled_stationByte b)
  | stationCharacterError =>
    cases h
    refine grantsSettled_whenRunning fun h => ?_
    split
    · exact h
    · exact h
    · exact grantsSettled_of_fa rfl h
  | stationGapExpiry =>
    cases h
    refine grantsSettled_whenRunning fun h => ?_
    split
    · exact h
    · exact grantsSettled_of_fa rfl h
  | turnaroundExpiry =>
    cases h
    refine grantsSettled_whenRunning fun h => ?_
    split
    · exact grantsSettled_of_fa rfl h
    · exact h
  | replySent =>
    cases h
    refine grantsSettled_whenRunning fun h => ?_
    split
    · exact grantsSettled_replyGone _ (grantsSettled_of_fa rfl h)
    · exact h
  | storePartComplete =>
    cases h
    refine grantsSettled_whenRunning fun h => ?_
    unfold State.partComplete
    split
    · exact grantsSettled_of_fa rfl h
    · exact grantsSettled_of_fa rfl h
    · exact h
  | storeWriteComplete held =>
    cases h
    refine grantsSettled_whenRunning fun h => ?_
    unfold State.writeComplete
    split
    · exact grantsSettled_of_fa rfl h
    · exact h
  | storePartTimeout =>
    cases h
    refine grantsSettled_whenRunning fun h => ?_
    split
    · exact grantsSettled_of_fa rfl h
    · exact h
  | supplyFall =>
    cases h
    intro h
    split
    · exact grantsSettled_of_fa rfl h
    · exact h
  | supplyStableExpiry =>
    cases h
    intro h
    split
    · exact h
    · exact grantsSettled_tryLeave (grantsSettled_of_fa rfl h)
  | resetTerminalChange asserted => cases h; exact grantsSettled_of_fa rfl
  | resetFilterExpiry =>
    cases h
    intro h
    split
    · exact h
    · exact grantsSettled_tryLeave (grantsSettled_of_fa rfl h)
  | resetAssertExpiry =>
    cases h
    intro h
    split
    · exact h
    · dsimp only
      split
      · exact grantsSettled_of_fa rfl h
      · exact grantsSettled_of_fa rfl h
  | warmTerminalChange asserted =>
    cases h
    intro h
    split
    · exact grantsSettled_of_fa rfl h
    · exact grantsSettled_of_fa rfl h
  | warmFilterExpiry =>
    cases h
    refine grantsSettled_whenRunning fun h => ?_
    split
    · exact h
    · exact grantsSettled_of_fa rfl h
  | warmAssertExpiry =>
    cases h
    refine grantsSettled_whenRunning fun h => ?_
    split
    · exact h
    · exact grantsSettled_of_empty (warmRestart_requests _ _)
  | supplyRise =>
    cases h
    intro h
    split
    · exact h
    · exact grantsSettled_of_fa rfl h

end

/-! ## Every step -/

theorem step_eq_of_pending {s : State} {c : Instr} {rest : List Instr} (h : s.pending = c :: rest) :
    step s = exec c { s with pending := rest } := by
  simp only [step, h]

/-- A step is a command's, on the state with the queue's rest, or the tick of the clock. -/
theorem step_cases {s t : State} (h : step s = .next t) :
    (∃ c rest, exec c { s with pending := rest } = .next t) ∨ t = s.tick := by
  unfold step at h
  split at h
  · exact .inl ⟨_, _, h⟩
  · next hp =>
    unfold idleStep at h
    split at h
    · exact .inl ⟨_, [], by rw [← hp]; exact h⟩
    · cases h; exact .inr rfl

/-- A step keeps every property of a safe state, whatever becomes of the queue of waiting commands. -/
theorem step_upholds {s t : State} (h : step s = .next t) : ∃ rest, Upholds { s with pending := rest } t := by
  rcases step_cases h with ⟨c, rest, hc⟩ | rfl
  · obtain ⟨u, hu, upholds⟩ := exec_upholds { s with pending := rest } c
    rw [hu] at hc
    cases hc
    exact ⟨rest, upholds⟩
  · exact ⟨s.pending, upholds_clock rfl rfl⟩

theorem step_settles {s t : State} (h : step s = .next t) : GrantsSettled s → GrantsSettled t := by
  rcases step_cases h with ⟨c, rest, hc⟩ | rfl
  · exact exec_settles c (s := { s with pending := rest }) hc
  · exact grantsSettled_of_fa rfl

/-! ## The obligations -/

/-- Settles O12: the queue and the grant limit operation by operation, and no grant left due, since what changes the arbiter ends
with the test for a grant or with no spout waiting. -/
theorem stepKeepsQueueAndGrantLimits : Obligations.StepKeepsQueueAndGrantLimits := by
  unfold Obligations.StepKeepsQueueAndGrantLimits
  intro s t h
  obtain ⟨_, upholds⟩ := step_upholds h
  exact ⟨upholds.queue, upholds.limit, step_settles h⟩

/-- Settles O13. -/
theorem stepKeepsFeedPlaces : Obligations.StepKeepsFeedPlaces := by
  unfold Obligations.StepKeepsFeedPlaces
  intro s t hf h
  obtain ⟨_, upholds⟩ := step_upholds h
  exact upholds.feed hf

/-- Settles O14. -/
theorem stepKeepsGatesPermittedAndSupervised : Obligations.StepKeepsGatesPermittedAndSupervised := by
  unfold Obligations.StepKeepsGatesPermittedAndSupervised
  intro s t h
  obtain ⟨_, upholds⟩ := step_upholds h
  exact ⟨upholds.permitted, upholds.gates⟩

/-- Settles O15: each owner hands its condition over with the change, and the outputs are recomputed with each notice. -/
theorem stepKeepsOutputsExact : Obligations.StepKeepsOutputsExact := by
  unfold Obligations.StepKeepsOutputsExact
  intro s t hv ho h
  obtain ⟨_, upholds⟩ := step_upholds h
  exact ⟨upholds.views hv, upholds.outputs ho⟩

/-- Settles O16. -/
theorem stepKeepsRanges : Obligations.StepKeepsRanges := by
  unfold Obligations.StepKeepsRanges
  intro s t h
  obtain ⟨_, upholds⟩ := step_upholds h
  exact ⟨upholds.flow, upholds.calibration, upholds.lines⟩

/-- Settles O17. -/
theorem stepKeepsOrdersPlaced : Obligations.StepKeepsOrdersPlaced := by
  unfold Obligations.StepKeepsOrdersPlaced
  intro s t hf ho h
  obtain ⟨_, upholds⟩ := step_upholds h
  exact upholds.orders hf ho

/-- Settles O18. -/
theorem stepKeepsTimersPlaced : Obligations.StepKeepsTimersPlaced := by
  unfold Obligations.StepKeepsTimersPlaced
  intro s t hf h
  obtain ⟨_, upholds⟩ := step_upholds h
  exact ⟨upholds.stages hf, upholds.windows hf⟩

/-- Settles O2: every command is one of the operations above, none of which faults or refuses. -/
theorem everyCommandCompletes : Obligations.EveryCommandCompletes := by
  unfold Obligations.EveryCommandCompletes
  intro c s
  obtain ⟨t, h, upholds⟩ := exec_upholds s c
  exact ⟨t, h, upholds.pending⟩

/-- Settles O1. -/
theorem stepRunsTheFrontCommand : Obligations.StepRunsTheFrontCommand := by
  unfold Obligations.StepRunsTheFrontCommand
  intro s c rest h
  exact step_eq_of_pending h

end Sys2Proof.Proofs

/-! The clock, the held reset, the station line's bytes, and the state after reset. -/

namespace Sys2Proof.Proofs

open Sys2Proof.Machine Sys2Proof.Safety Sys2Proof.Laws

/-! ## The timer that expires first (log entry 4) -/

theorem earlier_eq_or (x y : Due) : Due.earlier x y = x ∨ Due.earlier x y = y := by
  unfold Due.earlier
  split
  · exact .inr rfl
  · exact .inl rfl

theorem earlier_le (x y : Due) : (Due.earlier x y).1 ≤ x.1 ∧ (Due.earlier x y).1 ≤ y.1 := by
  unfold Due.earlier
  split <;> omega

/-- The fold names an entry of the list that none expires before. -/
theorem foldl_earlier (ds : List Due) (d : Due) :
    ds.foldl Due.earlier d ∈ d :: ds ∧ ∀ e ∈ d :: ds, (ds.foldl Due.earlier d).1 ≤ e.1 := by
  induction ds generalizing d with
  | nil => simp
  | cons x xs ih =>
    obtain ⟨hmem, hle⟩ := ih (Due.earlier d x)
    have hfirst := hle (Due.earlier d x) List.mem_cons_self
    refine ⟨?_, fun e he => ?_⟩
    · rcases List.mem_cons.1 hmem with h | h
      · rw [List.foldl_cons, h]
        rcases earlier_eq_or d x with h | h <;> simp [h]
      · exact List.mem_cons_of_mem _ (List.mem_cons_of_mem _ h)
    · rcases List.mem_cons.1 he with rfl | he
      · exact hfirst.trans (earlier_le e x).1
      · rcases List.mem_cons.1 he with rfl | he
        · exact hfirst.trans (earlier_le d e).2
        · exact hle e (List.mem_cons_of_mem _ he)

theorem dueCommand_of_none_due {s : State} (h : ∀ d ∈ s.timers, s.now < d.1) : s.dueCommand = none := by
  unfold State.dueCommand
  split
  · rfl
  · next d ds hd =>
    rw [hd] at h
    exact if_neg (Nat.not_le.2 (h _ (foldl_earlier ds d).1))

theorem dueCommand_of_due {s : State} (h : ∃ d ∈ s.timers, d.1 ≤ s.now) :
    ∃ d ∈ s.timers, d.1 ≤ s.now ∧ (∀ e ∈ s.timers, d.1 ≤ e.1) ∧ s.dueCommand = some d.2 := by
  obtain ⟨x, hx, hnow⟩ := h
  unfold State.dueCommand
  split
  · next hnil => rw [hnil] at hx; cases hx
  · next d ds hd =>
    rw [hd] at hx ⊢
    obtain ⟨hmem, hle⟩ := foldl_earlier ds d
    have first : (ds.foldl Due.earlier d).1 ≤ s.now := (hle x hx).trans hnow
    exact ⟨_, hmem, first, hle, if_pos first⟩

/-- Settles O3: the fold over the running timers names one that none expires before. -/
theorem emptyQueueRunsTheClock : Obligations.EmptyQueueRunsTheClock := by
  unfold Obligations.EmptyQueueRunsTheClock
  intro s hp
  have idle : step s = idleStep s := by simp only [step, hp]
  refine ⟨fun h => ?_, fun h => ?_⟩
  · rw [idle, idleStep, dueCommand_of_none_due h]
    rfl
  · obtain ⟨d, hd, hnow, hle, hdue⟩ := dueCommand_of_due h
    exact ⟨d, hd, hnow, hle, by rw [idle, idleStep, hdue]⟩

/-! ## A reset that is held (R195) -/

/-- A command that is not of the supply, of a terminal or a raw level acts only while the part runs. -/
theorem exec_eq_whenRunning {c : Instr} (h : actsInReset c = false) (s : State) :
    ∃ f, exec c s = .next (s.whenRunning f) := by
  cases c with
  | inputRawChange | supplyFall | supplyRise | supplyStableExpiry | resetTerminalChange | resetFilterExpiry
  | resetAssertExpiry | warmTerminalChange => exact nomatch h
  | _ => exact ⟨_, rfl⟩

theorem spoutInputs_set_get (t : SpoutInputs) (k : SpoutInput) : t.set k (t.get k) = t := by
  cases k <;> rfl

/-- An input that is set to what it is stays as it is. -/
theorem setInput_input (s : State) (i : InputId) : s.setInput i (s.input i) = s := by
  cases i with
  | spout sp k => simp only [State.setInput, State.input, State.updIob, spoutInputs_set_get, PerSpout.set_get]
  | feedHold => rfl
  | airOk => rfl

/-- Settles O4. -/
theorem heldResetTakesNothing : Obligations.HeldResetTakesNothing := by
  unfold Obligations.HeldResetTakesNothing
  intro c s hr
  have held : s.rst.held.isSome = true := by simpa [Running, Option.ne_none_iff_isSome] using hr
  refine ⟨fun hc => ?_, fun i active hc => ?_, fun asserted hc => ?_⟩
  · obtain ⟨f, hf⟩ := exec_eq_whenRunning hc s
    rw [hf, whenRunning_of_held hr]
  · subst hc
    show Host.Outcome.next _ = _
    by_cases hraw : (s.input i).raw = active
    · subst hraw
      rw [if_pos rfl]
      exact congrArg Host.Outcome.next (setInput_input s i).symm
    · rw [if_neg hraw, if_pos held]
  · subst hc
    exact congrArg Host.Outcome.next (if_pos held)

/-! ## The station line, byte by byte (R175, R177) -/

section
variable {s : State}

/-- While no reset is held, a command of the running part is its meaning on the state (R195). -/
theorem exec_running {c : Instr} {f : State → State} (hr : Running s) (h : exec c s = .next (s.whenRunning f)) :
    exec c s = .next (f s) := by
  rw [h, whenRunning_of_running hr]

theorem exec_stationByteArrival (hr : Running s) (b : Byte) : exec (.stationByteArrival b) s = .next (s.stationByte b) :=
  exec_running (f := fun s => s.stationByte b) hr rfl

/-- A byte that does not complete the frame is appended, and restarts the gap timer (R177). -/
theorem frameByte_of_partial {bytes : List Byte}
    (h : bytes.length < 3 ∨ (byteAt 2 bytes).toNat ≤ 120 ∧ bytes.length < 3 + (byteAt 2 bytes).toNat + 2) :
    s.frameByte bytes = s.updSl fun l => { l with rx := .frame bytes (s.now + 5) } := by
  have hmax : Config.bodyMax = 120 := rfl
  unfold State.frameByte
  dsimp only
  split
  · rfl
  · next hlen =>
    obtain ⟨hle, hpart⟩ := h.resolve_left hlen
    rw [if_neg (by omega), if_pos hpart]
    rfl

/-- A length above 120 discards the frame (R177). -/
theorem frameByte_of_long {bytes : List Byte} (hlen : bytes.length = 3) (h : 120 < (byteAt 2 bytes).toNat) :
    s.frameByte bytes = s.updSl fun l => { l with rx := .listen, lengthErr := min 65535 (l.lengthErr + 1) } := by
  unfold State.frameByte
  dsimp only
  rw [if_neg (by omega), if_pos (show Config.bodyMax < _ from h)]
  rfl

end

/-- Settles O8: the receiver's state decides what a byte, a character error and the gap's expiry do. -/
theorem stationLineFindsFrames : Obligations.StationLineFindsFrames := by
  unfold Obligations.StationLineFindsFrames
  intro s b hr
  refine ⟨fun htx hrx => ?listen, fun p frame htx => ?sending, fun bytes gap htx hrx => ?frame⟩
  case listen =>
    refine ⟨?_, (exec_running hr rfl).trans (by simp only [htx, hrx]), (exec_running hr rfl).trans (by simp only [hrx])⟩
    have byte : s.stationByte b = if b = 165 then s.startByte else s := by simp only [State.stationByte, htx, hrx]
    rw [exec_stationByteArrival hr, byte]
    split
    · have start : s.startByte = s.updSl fun l => { l with rx := .frame [] (s.now + 5) } := by
        simp only [State.startByte, htx]
        rfl
      rw [start]
      rfl
    · rw [← hrx]
  case sending =>
    refine ⟨?_, (exec_running hr rfl).trans (by simp only [htx])⟩
    rw [exec_stationByteArrival hr]
    simp only [State.stationByte, htx]
  case frame =>
    have byte : exec (.stationByteArrival b) s = .next (s.frameByte (bytes ++ [b])) := by
      rw [exec_stationByteArrival hr]
      simp only [State.stationByte, htx, hrx]
    have length : (bytes ++ [b]).length = bytes.length + 1 := List.length_append
    refine ⟨fun hpart => ?_, fun hlen hlong => ?_, ?_, ?_⟩
    · rw [byte, frameByte_of_partial]
      · rfl
      · rw [length]
        omega
    · rw [byte, frameByte_of_long (by omega)]
      · rfl
      · have third : byteAt 2 (bytes ++ [b]) = b := by
          rw [byteAt, List.getD_eq_getElem?_getD, List.getElem?_append_right (by omega), hlen]
          rfl
        rwa [third]
    · have broken : exec .stationCharacterError s = .next s.breakFrame :=
        (exec_running hr rfl).trans (by simp only [htx, hrx])
      rw [broken]
      rfl
    · exact (exec_running hr rfl).trans (by simp only [hrx]; rfl)

/-! ## Requests (R179, R180, R182) -/

/-- A command that encodes as a request is the taking of that request. -/
theorem exec_of_encodeRequest {i : Instr} {kind : Byte} {body : List Byte}
    (h : encodeRequest i = some (kind, body)) (s : State) : exec i s = .next (s.request kind (runRequest i)) := by
  cases i with
  | readStation | configStation | configLane | configSpout | readSpout | setCalibration | zero | loadOrder | start
  | stop | withdrawVehicle | readOrder | releaseOrder | readEvents | setOutputs | clearLockout | readLane
  | saveCalibration | restart => cases h; rfl
  | _ => exact nomatch h

/-- Settles O10: each request's step answers, and leaves the state as it was when its reply refuses it. -/
theorem requestsAreAnswered : Obligations.RequestsAreAnswered := by
  unfold Obligations.RequestsAreAnswered
  intro s i kind body ⟨hrun, htx⟩ h
  have answers := answers_runRequest s i
  refine ⟨s.take kind (runRequest i), (runRequest i s).2, ?_, answers.now, rfl, ?_, fun hok hclamped => ?_⟩
  · rw [exec_of_encodeRequest h, request_of_idle hrun htx]
  · show Tx.waiting _ ((runRequest i s).1.now + s.sl.turnaround) = _
    rw [answers.now]
  · show ((runRequest i s).1.answer kind s.sl.turnaround (runRequest i s).2) = _
    rw [answers.refused hok hclamped]
    rfl

/-! ### Codes that name nothing (R179) -/

section
variable {s : State} {b : Byte}

theorem spoutOfCode_of_gt (h : 3 < b.toNat) : spoutOfCode b = none := by
  unfold spoutOfCode
  split
  · omega
  · omega
  · omega
  · omega
  · rfl

theorem withSpout_of_gt (h : 3 < b.toNat) (f : Spout → State × Reply) : withSpout b s f = (s, .badField 1) := by
  simp only [withSpout, spoutOfCode_of_gt h]

theorem withLane_of_bad (h : b.toNat = 0 ∨ 2 < b.toNat) (f : Lane → State × Reply) :
    withLane b s f = (s, .badField 1) := by
  have none : laneOfCode b = none := by
    unfold laneOfCode
    split
    · omega
    · omega
    · rfl
  simp only [withLane, none]

theorem slotOfCode_of_gt (h : 15 < b.toNat) : slotOfCode b = none := dif_neg (by omega)

/-- A request that changes nothing but the link is answered. -/
theorem exec_unchanged {i : Instr} {kind : Byte} {body : List Byte} {r : Reply} (hready : Ready s)
    (henc : encodeRequest i = some (kind, body)) (h : runRequest i s = (s, r)) :
    exec i s = .next (answeredOnly s kind r) := by
  rw [exec_of_encodeRequest henc, request_unchanged hready kind _ r h]

end

/-- Settles O35. -/
theorem codesThatNameNothingAreRefused : Obligations.CodesThatNameNothingAreRefused := by
  unfold Obligations.CodesThatNameNothingAreRefused
  intro s code o span corr zero f r l hready bad
  refine ⟨fun h => ?_, fun h => ⟨?_, ?_⟩, fun h => ⟨?_, ?_⟩⟩
  · refine ⟨?_, ?_, ?_, ?_, ?_, ?_, fun hf => ?_, fun hr htag => ?_⟩
    · exact exec_unchanged hready rfl (withSpout_of_gt h _)
    · exact exec_unchanged hready rfl (withSpout_of_gt h _)
    · exact exec_unchanged hready rfl (withSpout_of_gt h _)
    · exact exec_unchanged hready rfl (withSpout_of_gt h _)
    · exact exec_unchanged hready rfl (withSpout_of_gt h _)
    · exact exec_unchanged hready rfl (withSpout_of_gt h _)
    · exact exec_unchanged hready rfl (withSpout_of_gt (hf ▸ h) _)
    · have tag : ¬ tagWf r.tag = false := by simp [tagWf, htag]
      exact exec_unchanged hready rfl ((if_neg tag).trans (withSpout_of_gt (hr ▸ h) _))
  · exact exec_unchanged hready rfl (withLane_of_bad h _)
  · exact fun hl => exec_unchanged hready rfl (withLane_of_bad (hl ▸ h) _)
  · exact exec_unchanged hready rfl (by simp only [runRequest, readOrderRequest, slotOfCode_of_gt h]; rfl)
  · exact exec_unchanged hready rfl (by simp only [runRequest, releaseRequest, slotOfCode_of_gt h]; rfl)

end Sys2Proof.Proofs

/-! The state after reset, zero tracking, the thresholds of a decision, raw changes, and the sensor line's bytes. -/

namespace Sys2Proof.Proofs

open Sys2Proof.Machine Sys2Proof.Safety Sys2Proof.Laws

/-! ## The state after reset -/

theorem ordersPlaced_reset : OrdersPlaced State.reset := by
  refine ⟨fun sp => ?_, fun i => ⟨?_, ?_⟩⟩
  · cases sp <;> exact ⟨by decide, by decide, by decide, by decide, by decide, by decide, by decide⟩
  · revert i; decide
  · revert i; decide

theorem calibrationRanges_reset : CalibrationRanges State.reset :=
  ⟨by simp only [CalibrationIn, Spout.forall_iff]; decide,
    by simp only [ItemsCalibrated, CalibrationIn, Spout.forall_iff]; decide,
    fun _ _ _ h => nomatch h⟩

/-- Settles O11: each property is evaluated at the one state. -/
theorem resetMeetsTheInvariants : Obligations.ResetMeetsTheInvariants := by
  unfold Obligations.ResetMeetsTheInvariants
  refine ⟨by unfold QueueBounded; decide, by unfold GrantLimit; decide, grantsSettled_of_empty rfl,
    by simp only [FeedPlaces, Spout.forall_iff]; decide, by simp only [GatePermissions, Spout.forall_iff]; decide,
    by simp only [GatesSupervised, Spout.forall_iff, Gate.forall_iff, Running]; decide,
    by simp only [ViewsExact, Spout.forall_iff, Lane.forall_iff]; decide,
    by simp only [OutputsExact, Spout.forall_iff, Running]; decide,
    by simp only [FlowRanges, Spout.forall_iff]; decide, calibrationRanges_reset, ordersPlaced_reset,
    by simp only [StagesPlaced, Spout.forall_iff]; decide, fun l => ?windows, fun sp => ?sensor, fun l => ?bridge⟩
  case windows =>
    cases l <;>
      exact ⟨rfl, fun p => by cases p <;> decide, fun h => (nomatch h), fun _ p => by cases p <;> decide, fun h => nomatch h⟩
  case sensor => cases sp <;> exact ⟨trivial, by decide, by decide, by decide, by decide⟩
  case bridge => cases l <;> exact ⟨trivial, by decide, by decide⟩

/-! ## Zero tracking (R34) -/

section
variable {s : State} {sp : Spout}

/-- The candidate is the rounded mean of the counts held (R32). -/
theorem candidate_of_pos {f : Fc} (h : 0 < f.history.length) :
    f.candidate = some ((f.history.sum + f.history.length / 2) / f.history.length) := by
  have held : f.history ≠ [] := List.length_pos_iff.1 h
  simp [Fc.candidate, roundedMean, held]

theorem distance_le_iff (a b n : Nat) : distance a b ≤ n ↔ a ≤ b + n ∧ b ≤ a + n := by
  unfold distance
  omega

theorem trackZero_of_empty (h : (s.fc.get sp).history = []) : s.trackZero sp = s := by
  simp [State.trackZero, Fc.candidate, h]

/-- The three outcomes of a comparison with a candidate (R34). -/
theorem trackZero_of_candidate {c : Nat} (h : (s.fc.get sp).candidate = some c) :
    s.trackZero sp =
      let f := s.fc.get sp
      let seen := s.updFc sp fun f => { f with lastCandidate := some c }
      if c = f.zero then seen
      else if c ≤ f.zero + (s.params.get sp).zeroBand ∧ f.zero ≤ c + (s.params.get sp).zeroBand then
        reported (seen.updFc sp fun f => { f with zero := c }) (.spout sp) (.zeroCaptured f.zero c f.history.length)
      else reported seen (.spout sp) (.zeroDrift f.zero c f.history.length) := by
  simp only [State.trackZero, h, distance_le_iff, pushEvent_eq_reported]
  rfl

theorem exec_zeroTrackExpiry {t : Nat} (hr : Running s) (ht : (s.fc.get sp).zeroTimer = some t) :
    exec (.zeroTrackExpiry sp) s =
      .next
        (State.trackZero
          (({ s with now := max s.now t } : State).updFc sp fun f =>
            { f with zeroTimer := some (max s.now t + (s.params.get sp).zeroTrack) }) sp) := by
  refine (exec_running hr rfl).trans ?_
  simp only [ht, State.updFc, Fc.restartZero, State.reach_fc, Option.map_some]
  rfl

end

/-- Settles O24. -/
theorem zeroTracking : Obligations.ZeroTracking := by
  unfold Obligations.ZeroTracking
  intro s sp t f k c late seen captured drifted hr ht
  have step : exec (.zeroTrackExpiry sp) s = .next (late.trackZero sp) := exec_zeroTrackExpiry hr ht
  have item : late.fc.get sp = { f with zeroTimer := some (max s.now t + (s.params.get sp).zeroTrack) } :=
    PerSpout.get_set_self _ _ _
  have compared (hk : 0 < k) := trackZero_of_candidate (s := late) (sp := sp) (c := c) (by
    rw [item]
    exact candidate_of_pos hk)
  refine ⟨fun hk => ?_, fun hk heq => ?_, fun hk hne hlo hhi => ?_, fun hk hout => ?_⟩
  · rw [step, trackZero_of_empty (by rw [item]; exact List.length_eq_zero_iff.1 hk)]
  · rw [step, compared hk, item]
    exact congrArg _ (if_pos heq)
  · rw [step, compared hk, item]
    exact congrArg _ ((if_neg hne).trans (if_pos ⟨hlo, hhi⟩))
  · have hne : c ≠ f.zero := by omega
    rw [step, compared hk, item]
    exact congrArg _ ((if_neg hne).trans (if_neg fun ⟨hlo, hhi⟩ => hout.elim (Nat.not_lt.2 hlo) (Nat.not_lt.2 hhi)))

/-! ## The thresholds of a decision (R108 to R112) -/

/-- Settles O26. -/
theorem thresholdsOfADecision : Obligations.ThresholdsOfADecision := by
  unfold Obligations.ThresholdsOfADecision
  intro r f p formed pre d
  have hpre : (pre : Int) = if formed < 0 then 0 else if (r.target : Int) < formed then (r.target : Int) else formed := by
    simp only [pre, preact, clampInt, formed]
    split <;> omega
  have hle : pre ≤ r.target := by
    have := hpre
    split at this <;> omega
  have hfine : fineThreshold r.target pre = r.target - pre := rfl
  have hcoarse : coarseThreshold r.target d pre = r.target - d - pre := rfl
  refine ⟨hpre, by omega, by omega, by omega, fun h => ?_, fun o h => ?_, ?_, ?_, ?_⟩
  · simp only [d, dribbleInUse, h, Option.getD_none]
  · simp only [d, dribbleInUse, h, Option.getD_some]
  · exact decide_eq_true_iff
  · exact decide_eq_true_iff
  · have met : coarseThreshold r.target d pre ≤ fineThreshold r.target pre := by omega
    exact fun h => decide_eq_true (met.trans (of_decide_eq_true h))

/-! ## Raw changes of an input (R42) -/

section
variable {s : State} {i : InputId}

theorem input_setInput (v : Input) : (s.setInput i v).input i = v := by
  cases i with
  | spout sp k => cases k <;> simp [State.setInput, State.input, SpoutInputs.set, SpoutInputs.get]
  | feedHold => rfl
  | airOk => rfl

theorem setInput_setInput (v w : Input) : (s.setInput i v).setInput i w = s.setInput i w := by
  cases i with
  | spout sp k =>
    cases k <;> simp [State.setInput, State.updIob, SpoutInputs.set]
  | feedHold => rfl
  | airOk => rfl

/-- A settling does not read the debounce timer, which it stops. -/
theorem settleInput_timer (v : Input) (t : Option Nat) :
    (s.setInput i { v with timer := t }).settleInput i = (s.setInput i { v with timer := none }).settleInput i := by
  simp only [State.settleInput, input_setInput, setInput_setInput]

theorem exec_debounceExpiry {t : Nat} (hr : Running s) (ht : (s.input i).timer = some t) :
    exec (.debounceExpiry i) s = .next ((s.reach t).settleInput i).testGrant :=
  (exec_running hr rfl).trans (by simp only [ht])

theorem setInput_rst (v : Input) : (s.setInput i v).rst = s.rst := by
  cases i <;> rfl

theorem setInput_fa (v : Input) : (s.setInput i v).fa = s.fa := by
  cases i <;> rfl

theorem setInput_now (v : Input) : (s.setInput i v).now = s.now := by
  cases i <;> rfl

theorem reach_of_le {t : Nat} (h : t ≤ s.now) : s.reach t = s := by
  rw [State.reach, Nat.max_eq_left h]

/-- A raw level that changes while no reset is held (R42). -/
theorem exec_inputRawChange {active : Bool} (hr : Running s) (h : (s.input i).raw ≠ active) :
    exec (.inputRawChange i active) s = .next (s.rawChange i active).testGrant := by
  have free : s.rst.held.isSome = false := by rw [show s.rst.held = none from hr]; rfl
  refine congrArg Host.Outcome.next ?_
  rw [if_neg h, free]
  rfl

end

/-- Settles O27: a debounce time of 0 settles the input as its timer's expiry would. -/
theorem rawChangesAreDebounced : Obligations.RawChangesAreDebounced := by
  unfold Obligations.RawChangesAreDebounced
  intro s i active v hr hg
  have settled (w : Input) : (s.setInput i w).testGrant = s.setInput i w :=
    testGrant_of_settled (grantsSettled_of_fa (setInput_fa w) hg)
  refine ⟨fun h => ?_, fun h hf => ?_, fun h hf hd => ?_, fun h hf hd => ?_⟩
  · exact congrArg Host.Outcome.next (if_pos h)
  · have change : s.rawChange i active = s.setInput i { v with raw := active, timer := none } := if_pos hf
    rw [exec_inputRawChange hr h, change, settled]
  · have change : s.rawChange i active = s.setInput i { v with raw := active, timer := some (s.now + s.iob.debounce) } :=
      (if_neg hf).trans (if_neg hd.ne')
    rw [exec_inputRawChange hr h, change, settled]
  · have change : s.rawChange i active = (s.setInput i { v with raw := active }).settleInput i :=
      (if_neg hf).trans (if_pos hd)
    have hr' : Running (s.setInput i { v with raw := active, timer := some s.now }) := by
      rwa [Running, setInput_rst]
    rw [exec_inputRawChange hr h, change,
      exec_debounceExpiry (t := s.now) hr' (by rw [input_setInput]),
      reach_of_le (by rw [setInput_now])]
    exact congrArg (fun t : State => Host.Outcome.next t.testGrant)
      ((settleInput_timer { v with raw := active } v.timer).trans
        (settleInput_timer { v with raw := active } (some s.now)).symm)

/-! ## The sensor line, byte by byte (R3, R4, R6, R7) -/

section
variable {s : State} {sp : Spout}

/-- A rejected frame's effect on the receiver, as one record (R6, R7, R13). -/
theorem slr_reject_eq (r : Slr) (bytes : List Byte) (gap : Nat) :
    r.reject bytes gap =
      { r with
        badCheck := min 65535 (r.badCheck + 1)
        framing := reexamine sensorCandidate gap bytes.tail
        goodRun := if r.line = .lost then 0 else r.goodRun
        hold := if r.line = .lost then [] else r.hold } := by
  unfold Slr.reject Slr.breakRun
  by_cases h : r.line = .lost
  · simp only [if_pos h]
    rfl
  · simp only [if_neg h]
    rfl

theorem exec_sensorByteArrival (hr : Running s) (b : Byte) :
    exec (.sensorByteArrival sp b) s = .next (s.sensorByte sp b).testGrant :=
  exec_running (f := fun s => (s.sensorByte sp b).testGrant) hr rfl

/-- A byte that completes a frame is the sixth. -/
theorem sensorByte_of_complete {bytes : List Byte} {gap : Nat} {b : Byte} (hlen : 5 ≤ bytes.length)
    (h : (s.slr.get sp).framing = .collect bytes gap) : s.sensorByte sp b = s.sensorFrame sp (bytes ++ [b]) := by
  simp only [State.sensorByte, h, List.length_append, List.length_singleton]
  exact if_neg (by omega)

theorem sensorByte_of_partial {bytes : List Byte} {gap : Nat} {b : Byte} (hlen : bytes.length < 5)
    (h : (s.slr.get sp).framing = .collect bytes gap) :
    s.sensorByte sp b = s.updSlr sp fun r => { r with framing := .collect (bytes ++ [b]) (s.now + 2) } := by
  simp only [State.sensorByte, h, List.length_append, List.length_singleton]
  exact if_pos (by omega)

theorem sensorByte_of_hunt {b : Byte} (h : (s.slr.get sp).framing = .hunt) :
    s.sensorByte sp b =
      if 0xA0 ≤ b.toNat ∧ b.toNat ≤ 0xBF then s.updSlr sp fun r => { r with framing := .collect [b] (s.now + 2) }
      else s := by
  simp only [State.sensorByte, h, sensorCandidate_iff]
  rfl

theorem xorBytes_five (h a1 a0 b1 b0 b : Byte) :
    xorBytes (([h, a1, a0, b1, b0] ++ [b]).take 5) = h ^^^ a1 ^^^ a0 ^^^ b1 ^^^ b0 := by
  simp [xorBytes]

end

/-- Settles O19: by the receiver's framing; a rejected frame's bytes are re-examined from the first header candidate on. -/
theorem sensorLineFindsFrames : Obligations.SensorLineFindsFrames := by
  unfold Obligations.SensorLineFindsFrames
  intro s sp b rejected hr hg
  have settled {t : State} (h : t.fa = s.fa) : t.testGrant = t := testGrant_of_settled (grantsSettled_of_fa h hg)
  have rejects (s : State) (bytes : List Byte) (gap : Nat) :
      (s.updSlr sp fun r => r.reject bytes gap) = rejected s (reexamine sensorCandidate gap bytes.tail) := by
    simp only [slr_reject_eq]
    rfl
  have again (gap : Nat) (bytes : List Byte) : Reexamined 0xA0 0xBF bytes gap (reexamine sensorCandidate gap bytes) :=
    reexamined_reexamine sensorCandidate_iff gap bytes
  refine ⟨fun hh => ⟨fun hlo hhi => ?_, fun hout => ?_, ?_, ?_⟩, fun bytes gap hc => ⟨fun hlen => ?_, ?_, ?_, ?_⟩⟩
  · rw [exec_sensorByteArrival hr, sensorByte_of_hunt hh, if_pos ⟨hlo, hhi⟩]
    exact congrArg Host.Outcome.next (settled rfl)
  · rw [exec_sensorByteArrival hr, sensorByte_of_hunt hh, if_neg (by omega), settled rfl]
  · exact (exec_running (f := fun s => s.abandonSensor sp) hr rfl).trans (by simp only [State.abandonSensor, hh])
  · exact (exec_running hr rfl).trans (by simp only [hh])
  · rw [exec_sensorByteArrival hr, sensorByte_of_partial hlen hc]
    exact congrArg Host.Outcome.next (settled rfl)
  · refine ⟨_, again _ _, ?_⟩
    rw [← rejects]
    exact (exec_running (f := fun s => s.abandonSensor sp) hr rfl).trans (by simp only [State.abandonSensor, hc]; rfl)
  · refine ⟨_, again _ _, ?_⟩
    rw [← rejects]
    exact (exec_running hr rfl).trans (by simp only [hc, State.abandonSensor, State.reach_slr]; rfl)
  · rintro h a1 a0 b1 b0 rfl hbad
    refine ⟨_, again _ _, ?_⟩
    have bad : s.sensorFrame sp ([h, a1, a0, b1, b0] ++ [b]) =
        s.updSlr sp fun r => r.reject [h, a1, a0, b1, b0, b] (s.now + 2) := if_neg (by rwa [xorBytes_five])
    rw [exec_sensorByteArrival hr, sensorByte_of_complete (by simp) hc, bad, rejects]
    exact congrArg Host.Outcome.next (settled rfl)

end Sys2Proof.Proofs

/-! What a settling input does: the proof of a gate's movement, gate faults, abort causes and the feed condition. -/

namespace Sys2Proof.Proofs

open Sys2Proof.Machine Sys2Proof.Safety Sys2Proof.Laws

/-! ## The settling of an input (R43, R45) -/

/-- An input settled at its raw level, another than its filtered one, before its change notice: the first settling sets the level
alone, a later one the change latch too, with INPUT_CHANGE while the report enable is on. -/
def inputSettled (s : State) (i : InputId) : State :=
  let v := s.input i
  let first := decide (v.filtered = .unsettled)
  reportedIf (v.report && !first)
    (s.setInput i { v with filtered := Level.ofRaw v.raw, timer := none, latch := v.latch || !first })
    (InputId.source i) (.inputChange i (Level.ofRaw v.raw))

theorem ofRaw_ne_unsettled (b : Bool) : Level.ofRaw b ≠ .unsettled := by
  cases b <;> decide

theorem ofRaw_not_ne (b : Bool) : Level.ofRaw (!b) ≠ Level.ofRaw b := by
  cases b <;> decide

section
variable {s : State} {i : InputId}

theorem settleInput_eq (h : (s.input i).filtered ≠ Level.ofRaw (s.input i).raw) :
    s.settleInput i = (inputSettled s i).changeNotice i (Level.ofRaw (s.input i).raw) := by
  unfold State.settleInput inputSettled
  dsimp only
  rw [if_neg h]
  by_cases first : (s.input i).filtered = .unsettled
  · simp [first, reportedIf]
  · simp [first, reportedIf, pushEvent_eq_reported]

theorem inputSettled_of_settled (h : (s.input i).filtered ≠ .unsettled) :
    inputSettled s i =
      reportedIf (s.input i).report
        (s.setInput i { s.input i with filtered := Level.ofRaw (s.input i).raw, timer := none, latch := true })
        (InputId.source i) (.inputChange i (Level.ofRaw (s.input i).raw)) := by
  simp [inputSettled, h]

/-- A settling input leaves every other block's items, and the gates, as they were. -/
theorem reportedIf_setInput_rest (p : Bool) (v : Input) (src : EventSource) (b : EventBody) :
    let t := reportedIf p (s.setInput i v) src b
    t.now = s.now ∧ t.params = s.params ∧ t.fc = s.fc ∧ t.sc = s.sc ∧ t.fa = s.fa ∧ t.ot = s.ot ∧
      t.iob.gates = s.iob.gates := by
  cases p <;> cases i <;> exact ⟨rfl, rfl, rfl, rfl, rfl, rfl, rfl⟩

theorem inputSettled_rest (s : State) (i : InputId) :
    (inputSettled s i).now = s.now ∧ (inputSettled s i).params = s.params ∧ (inputSettled s i).fc = s.fc ∧
      (inputSettled s i).sc = s.sc ∧ (inputSettled s i).fa = s.fa ∧ (inputSettled s i).ot = s.ot ∧
      (inputSettled s i).iob.gates = s.iob.gates :=
  reportedIf_setInput_rest _ _ _ _

/-- The expiry of an input's debounce timer at another level than the filtered one (R42 to R45). -/
theorem exec_debounce_change {t : Nat} (hr : Running s) (ht : (s.input i).timer = some t)
    (h : (s.input i).filtered ≠ Level.ofRaw (s.input i).raw) :
    exec (.debounceExpiry i) s =
      .next ((inputSettled (s.reach t) i).changeNotice i (Level.ofRaw (s.input i).raw)).testGrant := by
  have input : (s.reach t).input i = s.input i := by cases i <;> rfl
  rw [exec_debounceExpiry hr ht, settleInput_eq (by rwa [input]), input]

end

/-! ## Closed switches and gates (R33, R51 to R53) -/

section
variable {s : State} {sp : Spout} {g : Gate}

/-- The Flow Computer told of a closed switch's level (R33). -/
def switchSeen (s : State) (sp : Spout) (g : Gate) (level : Level) : State :=
  s.updFc sp fun f =>
    tracked
      { f with
        coarseView := if g = .coarse then level else f.coarseView
        fineView := if g = .fine then level else f.fineView }
      (s.now + (s.params.get sp).zeroTrack)

theorem changeNotice_gateSwitch (level : Level) :
    s.changeNotice (.spout sp (gateSwitch g)) level = (switchSeen s sp g level).switchSettled sp g level := by
  cases g <;> simp only [gateSwitch, State.changeNotice, State.updTracking, retrack_eq_tracked] <;> rfl

theorem gateOutcome_of_none (w : GateSup) : s.gateOutcome sp g (w, none) = s.setGate sp g w := rfl

theorem gateOutcome_of_some (w : GateSup) (k : GateFaultKind) :
    s.gateOutcome sp g (w, some k) = (s.setGate sp g w).abortCause sp .gateFault := rfl

theorem PerGate.set_get_self {α : Type} (t : PerGate α) (g : Gate) : t.set g (t.get g) = t := by
  cases g <;> rfl

theorem setGate_gate : s.setGate sp g (s.gate sp g) = s := by
  unfold State.setGate State.gate State.updIob
  simp only [PerGate.set_get_self, PerSpout.set_get]

/-- The table of R52: what a settling of the closed switch makes of its gate. -/
theorem settle_make {w : GateSup} (h : w.state = .closing ∨ w.state = .unproven) :
    w.settle .active = (⟨.closed, none⟩, none) := by
  rcases h with h | h <;> simp only [GateSup.settle, h]

theorem settle_opening {w : GateSup} (h : w.state = .opening) : w.settle .inactive = (⟨.opened, none⟩, none) := by
  simp only [GateSup.settle, h]

theorem settle_dropped {w : GateSup} (h : w.state = .closed) :
    w.settle .inactive = (⟨.unproven, none⟩, some .dropped) := by
  simp only [GateSup.settle, h]

theorem settle_still_inactive {w : GateSup} (h : w.state = .opened ∨ w.state = .closing ∨ w.state = .unproven) :
    w.settle .inactive = (w, none) := by
  rcases h with h | h | h <;> simp only [GateSup.settle, h]

theorem settle_still_active {w : GateSup} (h : w.state = .opened) : w.settle .active = (w, none) := by
  simp only [GateSup.settle, h]

end

/-- Settles O29. -/
theorem switchSettlingProvesTheGate : Obligations.SwitchSettlingProvesTheGate := by
  unfold Obligations.SwitchSettlingProvesTheGate
  intro s sp g t i v level first late settled seen hr hg ht hne
  obtain ⟨hnow, hparams, hfc, _, hfa, _, hgates⟩ := inputSettled_rest late i
  have hseen : switchSeen settled sp g level = seen := by
    have hnow' : settled.now = max s.now t := hnow
    have hparams' : settled.params = s.params := hparams
    simp only [switchSeen, hnow', hparams', seen]
  have hgate : seen.gate sp g = s.gate sp g := congrArg (fun x : PerSpout (PerGate GateSup) => (x.get sp).get g) hgates
  have step (w : GateSup) (h : (s.gate sp g).settle level = (w, none)) :
      exec (.debounceExpiry i) s = .next (seen.setGate sp g w) := by
    have notice : (inputSettled late i).changeNotice i level = seen.setGate sp g w := by
      rw [show inputSettled late i = settled from rfl, changeNotice_gateSwitch, hseen, State.switchSettled, hgate, h,
        gateOutcome_of_none]
    rw [exec_debounce_change hr ht hne]
    exact congrArg Host.Outcome.next
      ((congrArg State.testGrant notice).trans (testGrant_of_settled (grantsSettled_of_fa hfa hg)))
  refine ⟨fun hl hstate => ?_, fun hl hstate => ?_, fun hi ha => ?_⟩
  · exact step _ (by rw [hl, settle_make hstate])
  · exact step _ (by rw [hl, settle_opening hstate])
  · have still : (s.gate sp g).settle level = (s.gate sp g, none) := by
      cases hl : level with
      | inactive => exact settle_still_inactive (hi hl)
      | active => exact settle_still_active (ha hl)
      | unsettled =>
        simp only [level] at hl
        split at hl <;> cases hl
    rw [step _ still, ← hgate, setGate_gate]

/-! ## Abort causes of gates and inputs (R120 to R127, R135) -/

section
variable {x : State} {sp : Spout}

theorem lockedFor_fa (k : LockoutReason) : (lockedFor x sp k).fa = x.fa := by
  unfold lockedFor
  dsimp only
  split <;> rfl

theorem causeLocked_of_gateFault : causeLocked x sp .gateFault = lockedFor x sp .gateFault := rfl

/-- A cause in AERATE, COARSE and FINE begins the abort settle (R123). -/
theorem causeTaken_of_flowing {r : AbortReason}
    (h : (x.sc.get sp).state = .aerate ∨ (x.sc.get sp).state = .coarse ∨ (x.sc.get sp).state = .fine) :
    causeTaken x sp r =
      settling (causeLocked x sp r) sp
        { (causeLocked x sp r).sc.get sp with reasons := (x.sc.get sp).reasons.add r } .aborting := by
  rcases h with h | h | h <;> simp only [causeTaken, h]

theorem causeTaken_of_idle {r : AbortReason} (h : (x.sc.get sp).state = .idle) :
    causeTaken x sp r = causeLocked x sp r := by
  simp only [causeTaken, h]

theorem settling_requests (c : Sc) (st : SpoutState) : (settling x sp c st).fa.requests = x.fa.requests := rfl

/-- From AERATE onward SPOUT_LIFTED and VEHICLE_LEFT enter the lockout set; LEVEL_PROBE enters it in no state (R135). -/
theorem causeLocked_of_flowing (h : (x.sc.get sp).state = .aerate ∨ (x.sc.get sp).state = .coarse ∨ (x.sc.get sp).state = .fine) :
    causeLocked x sp .spoutLifted = lockedFor x sp .spoutLifted ∧
      causeLocked x sp .vehicleLeft = lockedFor x sp .vehicleLeft ∧ causeLocked x sp .levelProbe = x := by
  rcases h with h | h | h <;> simp [causeLocked, lockoutFor, h]

theorem causeLocked_fa (r : AbortReason) : (causeLocked x sp r).fa = x.fa := by
  unfold causeLocked
  split
  · rfl
  · exact lockedFor_fa _

end

/-- What a command does that is, on a state, a gate fault and the test for a grant (R53, R141). -/
theorem gateFault_cases {s x : State} {sp : Spout} {cmd : Instr} (hsc : x.sc = s.sc) (hfa : x.fa = s.fa)
    (hplace : (s.sc.get sp).state = .idle ∨ (s.sc.get sp).active ≠ none)
    (h : exec cmd s = .next (x.abortCause sp .gateFault).testGrant) :
    exec cmd s = .next (grantsGiven (causeTaken x sp .gateFault)) ∧
      ((s.sc.get sp).state = .idle → GrantsSettled s → exec cmd s = .next (lockedFor x sp .gateFault)) ∧
      ((s.sc.get sp).state = .aerate ∨ (s.sc.get sp).state = .coarse ∨ (s.sc.get sp).state = .fine →
        s.fa.requests = [] →
        exec cmd s =
          .next
            (settling (lockedFor x sp .gateFault) sp
              { (lockedFor x sp .gateFault).sc.get sp with
                reasons := { (s.sc.get sp).reasons with gateFault := true } } .aborting)) := by
  rw [← hsc] at hplace ⊢
  rw [abortCause_eq .gateFault hplace] at h
  refine ⟨h.trans (by rw [testGrant_eq]), fun hidle hg => ?_, fun hflow hempty => ?_⟩
  · rw [h, causeTaken_of_idle hidle, causeLocked_of_gateFault,
      testGrant_of_settled (grantsSettled_of_fa ((lockedFor_fa _).trans hfa) hg)]
  · rw [h, causeTaken_of_flowing hflow, causeLocked_of_gateFault, testGrant_of_empty]
    · rfl
    · rw [settling_requests, lockedFor_fa, hfa, hempty]

theorem exec_gateTravelExpiry {s : State} {sp : Spout} {g : Gate} {t : Nat} (hr : Running s)
    (ht : (s.gate sp g).timer = some t) :
    exec (.gateTravelExpiry sp g) s = .next ((s.reach t).gateOutcome sp g (s.gate sp g).expire).testGrant :=
  (exec_running hr rfl).trans (by simp only [ht])

/-- A dropped switch ends the tracking condition (R33). -/
theorem switchSeen_inactive {s : State} {sp : Spout} {g : Gate} :
    switchSeen s sp g .inactive =
      s.updFc sp fun f =>
        { f with
          coarseView := if g = .coarse then .inactive else f.coarseView
          fineView := if g = .fine then .inactive else f.fineView
          zeroTimer := none } := by
  cases g <;> simp [switchSeen, tracked]

/-- Settles O30: each of the three faults is one abort cause, GATE_FAULT, on the state as the gate leaves it. -/
theorem gateFaultsLockTheSpout : Obligations.GateFaultsLockTheSpout := by
  unfold Obligations.GateFaultsLockTheSpout
  intro s sp g t c late i v settled seen faulted hr hplace
  have travel (ht : (s.gate sp g).timer = some t) {w : GateSup} {k : GateFaultKind}
      (h : (s.gate sp g).expire = (w, some k)) :
      exec (.gateTravelExpiry sp g) s = .next ((late.setGate sp g w).abortCause sp .gateFault).testGrant := by
    rw [exec_gateTravelExpiry hr ht, h, gateOutcome_of_some]
    rfl
  refine ⟨fun ht hst => ?_, fun ht hst => ?_, fun ht hraw hf hst => ?_⟩
  · exact gateFault_cases rfl rfl hplace (travel ht (k := .failedOpen) (by simp only [GateSup.expire, hst]))
  · exact gateFault_cases rfl rfl hplace (travel ht (k := .failedClose) (by simp only [GateSup.expire, hst]))
  · have level : Level.ofRaw (s.input i).raw = .inactive := by rw [show (s.input i).raw = false from hraw]; rfl
    have hset : inputSettled late i = settled := by
      have hlate : late.input i = s.input i := by cases i <;> rfl
      rw [inputSettled_of_settled (by rw [hlate, show (s.input i).filtered = .active from hf]; decide), hlate, level]
      rfl
    obtain ⟨_, _, _, hsc, hfa, _, hgates⟩ := inputSettled_rest late i
    rw [hset] at hsc hfa hgates
    have hgate : seen.gate sp g = s.gate sp g := congrArg (fun x : PerSpout (PerGate GateSup) => (x.get sp).get g) hgates
    have hseen : switchSeen settled sp g .inactive = seen := switchSeen_inactive
    have notice : (inputSettled late i).changeNotice i .inactive =
        (seen.setGate sp g ⟨.unproven, none⟩).abortCause sp .gateFault := by
      rw [hset, changeNotice_gateSwitch, hseen, State.switchSettled, hgate, settle_dropped hst, gateOutcome_of_some]
    refine gateFault_cases hsc hfa hplace ?_
    rw [exec_debounce_change hr ht (by rw [level, show (s.input i).filtered = .active from hf]; decide), level]
    exact congrArg (fun x : State => Host.Outcome.next x.testGrant) notice

/-! ## SPOUT_DOWN, VEHICLE and LEVEL (R120) -/

/-- A change notice whose level is an abort cause: the cause, then the view (R120). -/
theorem scNotice_of_cause {s : State} {sp : Spout} {k : SpoutInput} {level : Level} {r : AbortReason}
    (hview : (s.sc.get sp).view k ≠ .unsettled) (h : inputCause k level = some r) :
    s.scNotice sp k level = (s.abortCause sp r).updSc sp fun c => c.setView k level := by
  simp only [State.scNotice, if_neg hview, h]

/-- The Spout Controller's three views told of a level. -/
def viewTold (s : State) (sp : Spout) (k : SpoutInput) (level : Level) : State :=
  s.updSc sp fun c =>
    { c with
      spoutDownView := if k = .spoutDown then level else c.spoutDownView
      vehicleView := if k = .vehicle then level else c.vehicleView
      levelView := if k = .level then level else c.levelView }

theorem updSc_setView {s : State} {sp : Spout} {k : SpoutInput} {level : Level} :
    (s.updSc sp fun c => c.setView k level) = viewTold s sp k level := by
  cases k <;> rfl

/-- What a debounce expiry does that is an abort cause at a spout with an order (R120, R123, R141). -/
theorem inputAbort_cases {s x : State} {sp : Spout} {k : SpoutInput} {level : Level} {r : AbortReason} {cmd : Instr}
    (hsc : x.sc = s.sc) (hfa : x.fa = s.fa) (hactive : (s.sc.get sp).active ≠ none)
    (h : exec cmd s = .next (viewTold (x.abortCause sp r) sp k level).testGrant) :
    exec cmd s = .next (grantsGiven (viewTold (causeTaken x sp r) sp k level)) ∧
      ((s.sc.get sp).state = .aerate ∨ (s.sc.get sp).state = .coarse ∨ (s.sc.get sp).state = .fine →
        s.fa.requests = [] →
        exec cmd s =
          .next
            (viewTold
              (settling (causeLocked x sp r) sp
                { (causeLocked x sp r).sc.get sp with reasons := (s.sc.get sp).reasons.add r } .aborting) sp k level)) := by
  rw [← hsc] at hactive ⊢
  rw [abortCause_eq r (.inr hactive)] at h
  refine ⟨h.trans (by rw [testGrant_eq]), fun hflow hempty => ?_⟩
  rw [h, causeTaken_of_flowing hflow, testGrant_of_empty]
  show (settling _ sp _ _).fa.requests = []
  rw [settling_requests, causeLocked_fa, hfa, hempty]

/-- Settles O31: the level that settles is the abort cause of its input. -/
theorem liftedSpoutAbortsTheLoad : Obligations.LiftedSpoutAbortsTheLoad := by
  unfold Obligations.LiftedSpoutAbortsTheLoad
  intro s sp k t i v c wet level late settled told aborts hr _ hactive ht hraw hf
  have raw : Level.ofRaw (s.input i).raw = level := congrArg Level.ofRaw hraw
  have set : inputSettled late i = settled := by
    have hlate : late.input i = s.input i := rfl
    have hsettled : (late.input i).filtered ≠ .unsettled := hf ▸ ofRaw_ne_unsettled _
    rw [inputSettled_of_settled hsettled, hlate, raw]
    rfl
  obtain ⟨_, _, _, hsc, hfa, _⟩ := inputSettled_rest late i
  replace hsc : settled.sc = s.sc := set ▸ hsc
  replace hfa : settled.fa = s.fa := set ▸ hfa
  have change : (s.input i).filtered ≠ level := hf ▸ ofRaw_not_ne wet
  have step {r : AbortReason} (notice : settled.changeNotice i level = settled.scNotice sp k level)
      (hcause : inputCause k level = some r) (hview : c.view k ≠ .unsettled) :
      exec (.debounceExpiry i) s = .next (viewTold (settled.abortCause sp r) sp k level).testGrant := by
    have hview' : (settled.sc.get sp).view k ≠ .unsettled := by rwa [hsc]
    have told : (inputSettled late i).changeNotice i level = viewTold (settled.abortCause sp r) sp k level := by
      rw [set, notice, scNotice_of_cause hview' hcause, updSc_setView]
    rw [exec_debounce_change hr ht (by rwa [raw]), raw]
    exact congrArg (fun x : State => Host.Outcome.next x.testGrant) told
  have locks := fun hflow => causeLocked_of_flowing (x := settled) (sp := sp) (by rwa [hsc])
  refine ⟨fun hk hview => ?_, fun hk hview => ?_, fun hk hview => ?_⟩
  · subst hk
    obtain ⟨given, flowing⟩ := inputAbort_cases hsc hfa hactive (step (r := .spoutLifted) rfl rfl hview)
    refine ⟨given, fun hflow hempty => ?_⟩
    rw [flowing hflow hempty, (locks hflow).1]
    rfl
  · subst hk
    obtain ⟨given, flowing⟩ := inputAbort_cases hsc hfa hactive (step (r := .vehicleLeft) rfl rfl hview)
    refine ⟨given, fun hflow hempty => ?_⟩
    rw [flowing hflow hempty, (locks hflow).2.1]
    rfl
  · subst hk
    obtain ⟨given, flowing⟩ := inputAbort_cases hsc hfa hactive (step (r := .levelProbe) rfl rfl hview)
    refine ⟨given, fun hflow hempty => ?_⟩
    rw [flowing hflow hempty, (locks hflow).2.2]
    rfl

end Sys2Proof.Proofs

/-! Changes of the feed condition: the return of the feed, and the suspensions of an air fault and of a hold. -/

namespace Sys2Proof.Proofs

open Sys2Proof.Machine Sys2Proof.Safety Sys2Proof.Laws

/-! ## A change of the feed condition (R145) -/

theorem updFa_of_eq {x : State} {f : Fa → Fa} {a : Fa} (h : f x.fa = a) :
    x.updFa f = { x with fa := a, iob := { x.iob with holdAck := a.holdAck } } := by
  unfold State.updFa
  rw [h]

/-- A notice that changes the condition: the suspensions it asks for, FEED_HELD, and FEED_STATE as holders and waiting spouts then
stand. -/
theorem feedNotice_of_change {x : State} {f : Fa → Fa} {new : FeedCond}
    (hnew : conditionOf (f x.fa).feedHoldView (f x.fa).airOkView = new) (hc : (f x.fa).condition = x.fa.condition)
    (hne : x.fa.condition ≠ new) :
    x.feedNotice f =
      let u := suspendedFor (x.updFa fun a => { f a with condition := new }) new
      reported (u.notice fun v => { v with feedHeld := decide (new ≠ .normal) }) .station
        (.feedState x.fa.condition new (Spout.all.filter u.fa.holders.get).length u.fa.requests.length u.fa.holdAck) := by
  have cond : feedCondition (x.updFa f).fa.feedHoldView (x.updFa f).fa.airOkView = new := (feedCondition_eq _ _).trans hnew
  have differs : new ≠ (x.updFa f).fa.condition := fun h => hne (hc.symm.trans h.symm)
  have twice : (x.updFa f).updFa (fun a => { a with condition := new }) = x.updFa fun a => { f a with condition := new } := rfl
  unfold State.feedNotice
  dsimp only
  rw [cond, if_neg differs, changeCondition_eq, twice, pushEvent_eq_reported, holderCount_eq]
  show _ = reported _ _ (.feedState x.fa.condition new _ _ _)
  rw [← hc]
  rfl

/-- The notice of a feed input that settles at a level (R44, R144). -/
def feedView (i : InputId) (level : Level) (f : Fa) : Fa :=
  { f with
    feedHoldView := if i = .feedHold then level else f.feedHoldView
    airOkView := if i = .airOk then level else f.airOkView }

theorem changeNotice_feed {x : State} {i : InputId} (h : i = .airOk ∨ i = .feedHold) (level : Level) :
    x.changeNotice i level = x.feedNotice (feedView i level) := by
  rcases h with rfl | rfl <;> rfl

theorem source_of_feed {i : InputId} (h : i = .airOk ∨ i = .feedHold) : InputId.source i = .station := by
  rcases h with rfl | rfl <;> rfl

/-- A feed input that settles so that the condition changes (R43, R44, R145). -/
theorem exec_feedChange {s : State} {i : InputId} {t : Nat} {new : FeedCond} (hr : Running s)
    (hi : i = .airOk ∨ i = .feedHold) (ht : (s.input i).timer = some t)
    (hv : (s.input i).filtered ≠ Level.ofRaw (s.input i).raw)
    (hnew : conditionOf (feedView i (Level.ofRaw (s.input i).raw) s.fa).feedHoldView
      (feedView i (Level.ofRaw (s.input i).raw) s.fa).airOkView = new)
    (hne : s.fa.condition ≠ new) :
    exec (.debounceExpiry i) s =
      let x := inputSettled (s.reach t) i
      let u := suspendedFor (x.updFa fun a => { feedView i (Level.ofRaw (s.input i).raw) a with condition := new }) new
      .next
        (reported (u.notice fun v => { v with feedHeld := decide (new ≠ .normal) }) .station
          (.feedState s.fa.condition new (Spout.all.filter u.fa.holders.get).length u.fa.requests.length
            u.fa.holdAck)).testGrant := by
  obtain ⟨_, _, _, _, hfa, _⟩ := inputSettled_rest (s.reach t) i
  have hfa' : (inputSettled (s.reach t) i).fa = s.fa := hfa
  rw [exec_debounce_change hr ht hv, changeNotice_feed hi, feedNotice_of_change (new := new) (by rwa [hfa']) rfl (by rwa [hfa']),
    hfa']

/-! ## A grant taken alone (R92, R94) -/

section
variable {x : State} {sp : Spout} {i : Fin 16}

/-- A grant taken below F: the spout aerates, its PRIME timer at the full prime time. -/
theorem granted_of_below (ha : (x.sc.get sp).active = some i) (hf : (reachedBy x sp i).fine = false)
    (hp : 0 < (x.params.get sp).prime) :
    granted x sp =
      movedTo x sp
        { x.sc.get sp with
          grantHeld := true, cause := none, state := .aerate
          stage := some ⟨.prime, x.now + (x.params.get sp).prime⟩ }
        false false true := by
  have below : ¬ (reachedBy x sp i).fine = true := by simp [hf]
  unfold granted
  dsimp only
  rw [ha]
  refine (if_neg below).trans ((if_neg hp.ne').trans ?_)
  rw [if_neg hp.ne']
  unfold movedTo
  simp only [PerSpout.set_set]
  rfl

/-- A grant taken at F is handed back by the settle. -/
theorem granted_of_reached (ha : (x.sc.get sp).active = some i) (hf : (reachedBy x sp i).fine = true) :
    granted x sp =
      cutOff { x with sc := x.sc.set sp { x.sc.get sp with grantHeld := true, stage := none, cause := none } } sp i := by
  unfold granted
  dsimp only
  rw [ha]
  exact if_pos hf

theorem grantsGiven_of_single (hreq : x.fa.requests = [sp]) (hcond : x.fa.condition = .normal)
    (hlt : (Spout.all.filter x.fa.holders.get).length < x.fa.g) :
    grantsGiven x = granted (x.updFa fun f => { f with requests := [], holders := f.holders.set sp true }) sp := by
  rw [grantsGiven, hreq, served, if_pos ⟨hcond, hlt⟩]
  rfl

end

theorem reachedBy_congr {s t : State} (hot : t.ot = s.ot) (hfc : t.fc = s.fc) (hp : t.params = s.params) (sp : Spout)
    (i : Fin 16) : reachedBy t sp i = reachedBy s sp i := by
  unfold reachedBy
  rw [hot, hfc, hp]

/-- Settles O33: the condition becomes NORMAL with no suspension, and the grants that are due are given. -/
theorem returnOfAirGrantsTheHead : Obligations.ReturnOfAirGrantsTheHead := by
  unfold Obligations.ReturnOfAirGrantsTheHead
  intro s i t v air level first late settled held normal hr hi hcond hhold hair ht hraw hf
  have raw : Level.ofRaw (s.input i).raw = level := congrArg Level.ofRaw hraw
  have set : inputSettled late i = settled := by
    have hlate : late.input i = s.input i := by rcases hi with rfl | rfl <;> rfl
    simp only [inputSettled, hlate, source_of_feed hi, raw]
    rfl
  obtain ⟨hnow, hparams, hfc, hsc, hfa, hot, _⟩ := inputSettled_rest late i
  rw [set] at hnow hparams hfc hsc hfa hot
  have views : feedView i level s.fa = { s.fa with feedHoldView := .inactive, airOkView := .active } := by
    rcases hi with rfl | rfl
    · simp only [feedView, hhold rfl, level, air]
      rfl
    · simp only [feedView, hair rfl, level, air]
      rfl
  have changed : (settled.updFa fun a => { feedView i level a with condition := .normal }) =
      ({ settled with
          fa := { s.fa with feedHoldView := .inactive, airOkView := .active, condition := .normal }
          iob := { settled.iob with holdAck := false } } : State) := by
    have hfa' : ({ feedView i level settled.fa with condition := .normal } : Fa) =
        { s.fa with feedHoldView := .inactive, airOkView := .active, condition := .normal } := by
      rw [show settled.fa = s.fa from hfa, views]
    exact updFa_of_eq (f := fun a => { feedView i level a with condition := .normal }) hfa'
  have step : exec (.debounceExpiry i) s = .next (grantsGiven normal) := by
    rw [exec_feedChange (new := .normal) hr hi ht (by rwa [raw]) (by rw [raw, views]; rfl) hcond, raw]
    dsimp only [suspendedFor]
    rw [show inputSettled (s.reach t) i = settled from set, testGrant_eq, changed]
    rfl
  refine ⟨step, ?_⟩
  intro sp slot granted c hreq hlt ha
  have given : grantsGiven normal = Safety.granted granted sp := grantsGiven_of_single hreq rfl hlt
  have ha' : (granted.sc.get sp).active = some slot := by rw [show granted.sc = s.sc from hsc]; exact ha
  have reach : reachedBy granted sp slot = reachedBy s sp slot := reachedBy_congr hot hfc hparams sp slot
  have hsc' : granted.sc = s.sc := hsc
  have hparams' : granted.params = s.params := hparams
  have hnow' : granted.now = max s.now t := hnow
  refine ⟨fun hbelow hprime => ?_, fun hreached => ?_⟩
  · rw [step, given, granted_of_below ha' (by rwa [reach]) (by rwa [hparams']), hsc', hparams', hnow']
  · rw [step, given, granted_of_reached ha' (by rwa [reach]), hsc']

/-! ## The suspensions of an air fault and of a hold (R131, R145, R146) -/

/-- A spout as the suspensions of the others leave it: its grant and its items, and it does not wait. -/
structure Untouched (s x : State) (sp : Spout) : Prop where
  holder : x.fa.holders.get sp = s.fa.holders.get sp
  item : x.sc.get sp = s.sc.get sp
  notWaiting : s.fa.holders.get sp = true → sp ∉ x.fa.requests

theorem Untouched.suspendedBy {s x : State} {sp q : Spout} (h : Untouched s x q) (hne : q ≠ sp) (cause : SuspendCause) :
    Untouched s (suspendedBy x sp cause) q where
  holder := (PerSpout.get_set_ne _ _ hne).trans h.holder
  item := (PerSpout.get_set_ne _ _ hne).trans h.item
  notWaiting hq := by
    have waits : (Safety.suspendedBy x sp cause).fa.requests = x.fa.requests ++ [sp] := rfl
    rw [waits, List.mem_append, List.mem_singleton]
    exact fun hmem => hmem.elim (h.notWaiting hq) hne

theorem suspendRequest_of_stops {s : State} {sp : Spout} {cause : SuspendCause}
    (hflow : (s.sc.get sp).state.isFlowing = true) (hstop : cause = .feedHold → (s.sc.get sp).state = .aerate) :
    s.suspendRequest sp cause = s.suspend sp cause := by
  unfold State.suspendRequest
  cases hst : (s.sc.get sp).state <;> rw [hst] at hflow hstop <;> cases cause <;> simp_all [SpoutState.isFlowing]

theorem suspendRequest_of_runs {s : State} {sp : Spout} {cause : SuspendCause}
    (h : ¬ (cause = .feedHold → (s.sc.get sp).state = .aerate)) : s.suspendRequest sp cause = s := by
  obtain ⟨rfl, hst⟩ := Classical.not_imp.1 h
  unfold State.suspendRequest
  split <;> simp_all

/-- The suspensions, taken one after another, are those of the holders that stop as they stood before the first. -/
theorem foldl_suspendRequest {s : State} {cause : SuspendCause} {p : Spout → Prop} [DecidablePred p]
    (hp : ∀ sp, p sp ↔ s.fa.holders.get sp = true ∧ (cause = .feedHold → (s.sc.get sp).state = .aerate))
    (hflow : ∀ sp, s.fa.holders.get sp = true → (s.sc.get sp).state.isFlowing = true) (sps : List Spout) (x : State)
    (hnodup : sps.Nodup) (h : ∀ sp ∈ sps, Untouched s x sp) :
    sps.foldl (fun x sp => if x.fa.holders.get sp then x.suspendRequest sp cause else x) x =
      sps.foldl (fun x sp => if p sp then suspendedBy x sp cause else x) x := by
  induction sps generalizing x with
  | nil => rfl
  | cons sp sps ih =>
    obtain ⟨hnot, hrest⟩ := List.nodup_cons.1 hnodup
    obtain ⟨holder, item, notWaiting⟩ := h sp List.mem_cons_self
    have others := fun q hq => h q (List.mem_cons_of_mem _ hq)
    rw [List.foldl_cons, List.foldl_cons]
    by_cases hstop : p sp
    · obtain ⟨hheld, hcause⟩ := (hp sp).1 hstop
      have suspends : x.suspendRequest sp cause = suspendedBy x sp cause := by
        rw [suspendRequest_of_stops (by rw [item]; exact hflow sp hheld) (by rwa [item]), suspend_eq _ (notWaiting hheld)]
      rw [if_pos (holder.trans hheld), suspends, if_pos hstop]
      refine ih _ hrest fun q hq => (others q hq).suspendedBy (fun e => ?_) cause
      exact hnot (e ▸ hq)
    · have stays : (if x.fa.holders.get sp then x.suspendRequest sp cause else x) = x := by
        by_cases hheld : s.fa.holders.get sp = true
        · have runs : ¬ (cause = .feedHold → (s.sc.get sp).state = .aerate) := fun hc => hstop ((hp sp).2 ⟨hheld, hc⟩)
          rw [suspendRequest_of_runs (by rwa [item]), ite_self]
        · rw [if_neg (by rwa [holder])]
      rw [stays, if_neg hstop]
      exact ih x hrest others

/-- A holder flows and does not wait (sections 8.1 and 8.2). -/
theorem holder_flows {s : State} (h : FeedPlaces s) {sp : Spout} (hh : s.fa.holders.get sp = true) :
    (s.sc.get sp).state.isFlowing = true ∧ sp ∉ s.fa.requests := by
  obtain ⟨_, waits, flows, _⟩ := h
  refine ⟨flows sp hh, fun hmem => ?_⟩
  have flow := flows sp hh
  rcases waits sp hmem with hst | hst
  all_goals
    rw [hst] at flow
    exact nomatch flow

/-- The suspensions keep the condition and the view of FEED_HOLD. -/
theorem foldl_suspendedBy_fa {cause : SuspendCause} {p : Spout → Prop} [DecidablePred p] (sps : List Spout) (x : State) :
    let y := sps.foldl (fun x sp => if p sp then suspendedBy x sp cause else x) x
    y.fa.condition = x.fa.condition ∧ y.fa.feedHoldView = x.fa.feedHoldView := by
  induction sps generalizing x with
  | nil => exact ⟨rfl, rfl⟩
  | cons sp sps ih =>
    obtain ⟨condition, view⟩ := ih (if p sp then suspendedBy x sp cause else x)
    rw [List.foldl_cons]
    refine ⟨condition.trans ?_, view.trans ?_⟩
    · split <;> rfl
    · split <;> rfl

theorem suspendedFor_of_stop {x : State} {new : FeedCond} (h : new = .hold ∨ new = .airFault ∨ new = .holdAirFault) :
    suspendedFor x new = x.suspendHolders (if new = .hold then .feedHold else .airFault) := by
  rcases h with rfl | rfl | rfl <;> rfl

/-- Settles O34: the suspensions are those of the holders that stop as the feed changes, and the new condition grants nothing. -/
theorem airFaultAndHoldSuspend : Obligations.AirFaultAndHoldSuspend := by
  unfold Obligations.AirFaultAndHoldSuspend
  intro s i t v air level first late settled holdView airView new cause changed stops taken ack hr hplaces hi hhold hair hne ht hraw hf
  have raw : Level.ofRaw (s.input i).raw = level := congrArg Level.ofRaw hraw
  have set : inputSettled late i = settled := by
    have hlate : late.input i = s.input i := by rcases hi with rfl | rfl <;> rfl
    simp only [inputSettled, hlate, source_of_feed hi, raw]
    rfl
  obtain ⟨_, _, _, hsc, hfa, _⟩ := inputSettled_rest late i
  rw [set] at hsc hfa
  have views : feedView i level s.fa = { s.fa with feedHoldView := holdView, airOkView := airView } := by
    rcases hi with rfl | rfl <;> rfl
  have cond : conditionOf holdView airView = new ∧ (new = .hold ∨ new = .airFault ∨ new = .holdAirFault) := by
    have stops : holdView = .active ∨ airView = .inactive := by
      rcases hi with rfl | rfl
      · exact .inr rfl
      · exact .inl rfl
    simp only [new]
    revert hhold hair stops
    cases holdView <;> cases airView <;> decide
  have hchanged : (settled.updFa fun a => { feedView i level a with condition := new }) = changed := by
    have hfa' : ({ feedView i level settled.fa with condition := new } : Fa) =
        { settled.fa with feedHoldView := holdView, airOkView := airView, condition := new } := by
      rw [show settled.fa = s.fa from hfa, views]
    exact updFa_of_eq (f := fun a => { feedView i level a with condition := new }) hfa'
  have hstops (sp : Spout) : stops sp ↔
      s.fa.holders.get sp = true ∧ (cause = .feedHold → (s.sc.get sp).state = .aerate) := by
    have : cause = .feedHold ↔ new = .hold := by
      simp only [cause]
      split <;> simp [*]
    rw [this]
  have htaken : suspendedFor changed new = taken := by
    rw [suspendedFor_of_stop cond.2]
    refine foldl_suspendRequest (s := s) hstops (fun sp hh => (holder_flows hplaces hh).1) Spout.all changed (by decide)
      fun sp _ => ⟨?_, congrArg (fun x : PerSpout Sc => x.get sp) hsc, fun hh => ?_⟩
    · show settled.fa.holders.get sp = s.fa.holders.get sp
      rw [show settled.fa = s.fa from hfa]
    · show sp ∉ settled.fa.requests
      rw [show settled.fa = s.fa from hfa]
      exact (holder_flows hplaces hh).2
  obtain ⟨htcond, htview⟩ := foldl_suspendedBy_fa (cause := cause) (p := stops) Spout.all changed
  have hack : taken.fa.holdAck = ack := by
    rw [Bool.eq_iff_iff, holdAck_iff, decide_eq_true_iff]
    refine and_congr (by rw [show taken.fa.feedHoldView = holdView from htview]) ?_
    exact ⟨fun h sp _ => h sp, fun h sp => h sp (by cases sp <;> decide)⟩
  have hnormal : new ≠ .normal := by rcases cond.2 with h | h | h <;> rw [h] <;> decide
  rw [exec_feedChange (new := new) hr hi ht (by rwa [raw]) (by rw [raw, views]; exact cond.1) hne, raw]
  dsimp only
  rw [show inputSettled (s.reach t) i = settled from set, hchanged, htaken, testGrant_of_condition, hack,
    decide_eq_true hnormal]
  exact fun h => hnormal (htcond.symm.trans h)

end Sys2Proof.Proofs

/-! Substitutions: the decision after each, and the substitution that loses the line. -/

namespace Sys2Proof.Proofs

open Sys2Proof.Machine Sys2Proof.Safety Sys2Proof.Laws

/-! ## What a decision leaves (R96 to R98) -/

section
variable {t : State} {sp : Spout} {i : Fin 16}

/-- A decision settles, suspends or dribbles a load that flows, or changes nothing. -/
theorem decided_cases (t : State) (sp : Spout) (i : Fin 16) :
    decided t sp i = t ∨
      ((t.sc.get sp).state = .coarse ∨ (t.sc.get sp).state = .fine) ∧
        (decided t sp i = cutOff t sp i ∨ decided t sp i = suspendedBy t sp .feedHold ∨
          decided t sp i = movedTo t sp { t.sc.get sp with state := .fine, stage := none } false true true) := by
  unfold decided
  dsimp only
  split
  · next h => exact .inr ⟨h.1, .inl rfl⟩
  · split
    · next h =>
      refine .inr ⟨.inl h.1, .inr ?_⟩
      split
      · exact .inl rfl
      · exact .inr rfl
    · exact .inl rfl

theorem movedTo_item (c : Sc) (x y z : Bool) : (movedTo t sp c x y z).sc.get sp = c := PerSpout.get_set_self _ _ _

theorem movedTo_lineView (c : Sc) (x y z : Bool) :
    ((movedTo t sp c x y z).fc.get sp).lineView = (t.fc.get sp).lineView :=
  (congrArg Fc.lineView (PerSpout.get_set_self _ _ _)).trans rfl

theorem cutOff_item : ((cutOff t sp i).sc.get sp).active = (t.sc.get sp).active ∧
    ((cutOff t sp i).sc.get sp).state = .settle := by
  simp [cutOff, settling, grantReturned, movedTo]

theorem suspendedBy_item (cause : SuspendCause) :
    ((suspendedBy t sp cause).sc.get sp).active = (t.sc.get sp).active ∧
      ((suspendedBy t sp cause).sc.get sp).state = .suspended := by
  simp [suspendedBy, grantReturned, movedTo]

theorem decided_rest (t : State) (sp : Spout) (i : Fin 16) :
    (decided t sp i).slr = t.slr ∧ (decided t sp i).params = t.params ∧
      ((decided t sp i).fc.get sp).lineView = (t.fc.get sp).lineView ∧
      ((decided t sp i).sc.get sp).active = (t.sc.get sp).active := by
  rcases decided_cases t sp i with h | ⟨_, h | h | h⟩ <;> rw [h]
  · exact ⟨rfl, rfl, rfl, rfl⟩
  · exact ⟨rfl, rfl, movedTo_lineView _ false false false, cutOff_item.1⟩
  · exact ⟨rfl, rfl, movedTo_lineView _ false false false, (suspendedBy_item _).1⟩
  · exact ⟨rfl, rfl, movedTo_lineView _ false true true, by rw [movedTo_item]⟩

theorem decided_of_idle (h : (t.sc.get sp).state = .idle) : decided t sp i = t := by
  rcases decided_cases t sp i with e | ⟨hst, _⟩
  · exact e
  · rw [h] at hst
    exact absurd hst (by decide)

/-- A load that still runs in COARSE after its decision was left as it was. -/
theorem decided_of_coarse (h : ((decided t sp i).sc.get sp).state = .coarse) : decided t sp i = t := by
  rcases decided_cases t sp i with e | ⟨_, e | e | e⟩
  · exact e
  · rw [e, cutOff_item.2] at h
    cases h
  · rw [e, (suspendedBy_item _).2] at h
    cases h
  · rw [e, movedTo_item] at h
    cases h

end

/-! ## One substitution (R9, R10, R24) -/

/-- A spout whose line's items are integrated, and whose loss is an abort cause at an order or at an idle spout. -/
structure Sampling (s : State) (sp : Spout) : Prop where
  live : (s.fc.get sp).lineView = .live
  placed : (s.sc.get sp).state = .idle ∨ (s.sc.get sp).active ≠ none
  notWaiting : (s.sc.get sp).state = .coarse → sp ∉ s.fa.requests

section
variable {s : State} {sp : Spout}

/-- The substitution's item, before its decision. -/
def substitutionTaken (s : State) (sp : Spout) : State :=
  afterItems
    (s.updSlr sp fun r => { r with subRun := r.subRun + 1, subCount := min 65535 (r.subCount + 1) }) sp
    [(s.fc.get sp).qFilt] 1 0

theorem substituted_cases (s : State) (sp : Spout) :
    substituted s sp = substitutionTaken s sp ∨
      ∃ i, (s.sc.get sp).active = some i ∧ substituted s sp = decided (substitutionTaken s sp) sp i := by
  unfold substituted
  dsimp only
  split
  · exact .inl rfl
  · next i h => exact .inr ⟨i, h, rfl⟩

theorem substitutionTaken_lineView : ((substitutionTaken s sp).fc.get sp).lineView = (s.fc.get sp).lineView :=
  (congrArg Fc.lineView (PerSpout.get_set_self _ _ _)).trans rfl

theorem substituted_rest (s : State) (sp : Spout) :
    (substituted s sp).slr =
        s.slr.set sp
          { s.slr.get sp with
            subRun := (s.slr.get sp).subRun + 1, subCount := min 65535 ((s.slr.get sp).subCount + 1) } ∧
      (substituted s sp).params = s.params ∧ ((substituted s sp).fc.get sp).lineView = (s.fc.get sp).lineView ∧
      ((substituted s sp).sc.get sp).active = (s.sc.get sp).active := by
  rcases substituted_cases s sp with h | ⟨i, _, h⟩ <;> rw [h]
  · exact ⟨rfl, rfl, substitutionTaken_lineView, rfl⟩
  · obtain ⟨slr, params, lineView, active⟩ := decided_rest (substitutionTaken s sp) sp i
    exact ⟨slr.trans rfl, params.trans rfl, lineView.trans substitutionTaken_lineView, active.trans rfl⟩

theorem substituted_of_idle (h : (s.sc.get sp).state = .idle) : substituted s sp = substitutionTaken s sp := by
  rcases substituted_cases s sp with e | ⟨i, _, e⟩
  · exact e
  · exact e.trans (decided_of_idle h)

theorem Sampling.substituted (h : Sampling s sp) : Sampling (substituted s sp) sp := by
  obtain ⟨_, _, lineView, active⟩ := substituted_rest s sp
  refine ⟨lineView.trans h.live, ?_, fun hst => ?_⟩
  · rcases h.placed with hst | hactive
    · exact .inl (by rw [substituted_of_idle hst]; exact hst)
    · exact .inr (by rwa [active])
  · rcases substituted_cases s sp with e | ⟨i, _, e⟩
    · rw [e] at hst ⊢
      exact h.notWaiting hst
    · rw [e] at hst ⊢
      have still := decided_of_coarse hst
      rw [still] at hst ⊢
      exact h.notWaiting hst

theorem sampleReport_of_none {x : State} (h : (x.sc.get sp).active = none) : x.sampleReport sp = x := by
  have none : x.decision sp = none := by simp only [State.decision, h, Option.map_none]
  unfold State.sampleReport
  rw [none]
  split <;> simp_all

/-- A substitution order, then the test of the limit (R9, R10). -/
theorem substituteOne_eq (h : Sampling s sp) :
    s.substituteOne sp =
      if (s.params.get sp).subLimit ≤ (s.slr.get sp).subRun + 1 then lineLostBy (substituted s sp) sp
      else substituted s sp := by
  have taken : (if (s.fc.get sp).lineView = .live then
      ((s.updSlr sp fun r =>
        { r with subRun := r.subRun + 1, subCount := satAdd Config.countMax r.subCount 1 }).fcSubstitute sp).sampleReport sp
      else s.updSlr sp fun r => { r with subRun := r.subRun + 1, subCount := satAdd Config.countMax r.subCount 1 }) =
      substituted s sp := by
    rw [if_pos h.live, State.fcSubstitute, integrate_eq]
    unfold substituted
    dsimp only
    cases ha : (s.sc.get sp).active with
    | none => exact sampleReport_of_none ha
    | some i => exact sampleReport_eq ha h.notWaiting
  obtain ⟨slr, params, _, _⟩ := substituted_rest s sp
  unfold State.substituteOne
  dsimp only
  rw [show (s.updSlr sp _).fc = s.fc from rfl, taken, params, slr, PerSpout.get_set_self]
  split
  · rw [lineLost_eq (h.substituted).placed]
  · rfl

theorem lineLostBy_line (s : State) (sp : Spout) : ((lineLostBy s sp).slr.get sp).line = .lost := by
  unfold lineLostBy
  dsimp only
  show ((causeTaken _ sp .sensorLost).slr.get sp).line = .lost
  rw [causeTaken_slr]
  exact congrArg Slr.line (PerSpout.get_set_self s.slr sp
    { s.slr.get sp with line := .lost, subRun := 0, goodRun := 0, hold := [] })

/-- Reached on the first substitution of the pair, the second is not made (R10). -/
theorem substitutePair_of_first (h : Sampling s sp) (hlimit : (s.params.get sp).subLimit ≤ (s.slr.get sp).subRun + 1) :
    s.substitutePair sp = lineLostBy (Safety.substituted s sp) sp := by
  have lost : ¬ ((lineLostBy (Safety.substituted s sp) sp).slr.get sp).line = .live := by
    rw [lineLostBy_line]
    decide
  unfold State.substitutePair
  dsimp only
  rw [substituteOne_eq h, if_pos hlimit, if_neg lost]

/-- Reached on the second, both are (R10). -/
theorem substitutePair_of_second (h : Sampling s sp) (hlive : (s.slr.get sp).line = .live)
    (hbelow : (s.slr.get sp).subRun + 1 < (s.params.get sp).subLimit)
    (hlimit : (s.params.get sp).subLimit ≤ (s.slr.get sp).subRun + 2) :
    s.substitutePair sp = lineLostBy (Safety.substituted (Safety.substituted s sp) sp) sp := by
  obtain ⟨slr, params, _⟩ := substituted_rest s sp
  have item := congrArg (fun x : PerSpout Slr => x.get sp) slr
  simp only [PerSpout.get_set_self] at item
  have live : ((Safety.substituted s sp).slr.get sp).line = .live := by rwa [item]
  have one : s.substituteOne sp = Safety.substituted s sp := (substituteOne_eq h).trans (if_neg (by omega))
  unfold State.substitutePair
  dsimp only
  rw [one, if_pos live, substituteOne_eq h.substituted, params, item, if_pos hlimit]

theorem updSlr_updSlr (f g : Slr → Slr) : (s.updSlr sp f).updSlr sp g = s.updSlr sp fun r => g (f r) := by
  simp only [State.updSlr, PerSpout.get_set_self, PerSpout.set_set]

/-- What an item leaves in the receiver does not meet the item. -/
theorem updSlr_afterItems (f g : Slr → Slr) (qs : List Nat) (a b : Nat) :
    (afterItems (s.updSlr sp f) sp qs a b).updSlr sp g = afterItems (s.updSlr sp fun r => g (f r)) sp qs a b := by
  unfold afterItems State.updSlr
  simp only [PerSpout.get_set_self, PerSpout.set_set]

/-- The loss of an idle spout's line is no abort cause (R120, R135). -/
theorem lineLostBy_of_idle (h : (s.sc.get sp).state = .idle) :
    lineLostBy s sp =
      reported
        (((s.updSlr sp fun r => { r with line := .lost, subRun := 0, goodRun := 0, hold := [] }).updFc sp fun f =>
            { f with lineView := .lost, window := [], qFilt := 0, history := [], zeroTimer := none }).updSc sp
          fun c => { c with lineView := .lost })
        (.spout sp) (.sensorLost (s.slr.get sp).badCheck (s.slr.get sp).subCount) := by
  have taken (x : State) (hx : (x.sc.get sp).state = .idle) : causeTaken x sp .sensorLost = x := by
    rw [causeTaken_of_idle hx]
    simp [causeLocked, lockoutFor, hx]
  unfold lineLostBy
  dsimp only
  generalize hd : State.updFc _ sp _ = down
  rw [taken down (by rw [← hd]; exact h)]

end

/-! ## The command that takes the line LOST -/

section
variable {s : State} {sp : Spout}

theorem exec_frameWatch_live {t : Nat} (hr : Running s) (hw : (s.slr.get sp).watch = some t)
    (hlive : (s.slr.get sp).line = .live) :
    exec (.frameWatchExpiry sp) s =
      .next
        ((({ s with now := max s.now t } : State).updSlr sp fun r =>
            { r with watch := some (max s.now t + 20) }).substitutePair sp).testGrant := by
  refine (exec_running hr rfl).trans ?_
  simp only [hw, State.updSlr_slr, PerSpout.get_set_self, State.reach_slr, hlive]
  rfl

theorem exec_goodFrame {h a1 a0 b1 b0 b : Byte} {gap : Nat} (hr : Running s)
    (hc : (s.slr.get sp).framing = .collect [h, a1, a0, b1, b0] gap) (hx : h ^^^ a1 ^^^ a0 ^^^ b1 ^^^ b0 = b) :
    exec (.sensorByteArrival sp b) s = .next (s.goodFrame sp [h, a1, a0, b1, b0, b]).testGrant := by
  have good : s.sensorFrame sp ([h, a1, a0, b1, b0] ++ [b]) = s.goodFrame sp [h, a1, a0, b1, b0, b] :=
    if_pos (by rw [xorBytes_five, hx]; rfl)
  rw [exec_sensorByteArrival hr, sensorByte_of_complete (by simp) hc, good]

theorem goodFrame_of_headFault {h a1 a0 b1 b0 b : Byte} (hlive : (s.slr.get sp).line = .live)
    (hh : h.getLsbD 3 = true) :
    s.goodFrame sp [h, a1, a0, b1, b0, b] =
      (s.updSlr sp fun r => { r with watch := some (s.now + 30), framing := .hunt }).substitutePair sp := by
  have fault : headFault [h, a1, a0, b1, b0, b] = true := hh
  unfold State.goodFrame
  simp only [State.updSlr_slr, PerSpout.get_set_self, hlive, fault]
  rfl

end

/-- Settles O22: the pair of substitutions ends in the loss at the substitution that reaches the limit. -/
theorem substitutionLimitLosesTheLine : Obligations.SubstitutionLimitLosesTheLine := by
  unfold Obligations.SubstitutionLimitLosesTheLine
  intro s sp h a1 a0 b1 b0 b gap f r limit first second hr hplaces hlive hview hplace
  have notWaiting : (s.sc.get sp).state = .coarse → sp ∉ s.fa.requests := fun hst hmem => by
    obtain ⟨_, waits, _⟩ := hplaces
    rcases waits sp hmem with e | e <;> rw [hst] at e <;> cases e
  refine ⟨?watch, ?frame⟩
  case watch =>
    intro t ht late watched subs counted told events
    have sampling : Sampling watched sp := ⟨hview, hplace, notWaiting⟩
    have item : watched.slr.get sp = { r with watch := some (max s.now t + 20) } := PerSpout.get_set_self _ _ _
    have step : exec (.frameWatchExpiry sp) s = .next (watched.substitutePair sp).testGrant := exec_frameWatch_live hr ht hlive
    have atFirst (hlimit : limit ≤ r.subRun + 1) : exec (.frameWatchExpiry sp) s = .next (first watched) := by
      rw [step, substitutePair_of_first sampling (by rwa [item]), testGrant_eq]
    refine ⟨atFirst, fun hbelow hlimit => ?_, fun hlimit hg hidle => ?_⟩
    · rw [step, substitutePair_of_second sampling (by rwa [item]) (by rwa [item]) (by rwa [item]), testGrant_eq]
    · have idle : ((substitutionTaken watched sp).sc.get sp).state = .idle := hidle
      have lost : lineLostBy (Safety.substituted watched sp) sp = reported told (.spout sp) (.sensorLost r.badCheck subs) := by
        have receiver : (substitutionTaken watched sp).slr.get sp =
            { r with watch := some (max s.now t + 20), subRun := r.subRun + 1, subCount := subs } := by
          show ((watched.slr.set sp _).get sp) = _
          rw [PerSpout.get_set_self, item]
        have emptied : ((substitutionTaken watched sp).updSlr sp fun r =>
            { r with line := .lost, subRun := 0, goodRun := 0, hold := [] }) = counted := by
          simp only [substitutionTaken, updSlr_afterItems, watched, updSlr_updSlr]
          rfl
        rw [substituted_of_idle (s := watched) hidle, lineLostBy_of_idle idle, receiver, emptied]
      rw [atFirst hlimit]
      show Host.Outcome.next (grantsGiven (lineLostBy (Safety.substituted watched sp) sp)) = _
      rw [lost, ← testGrant_eq]
      exact congrArg Host.Outcome.next (testGrant_of_settled (grantsSettled_of_fa (s := s) rfl hg))
  case frame =>
    intro hc hx hh framed
    have sampling : Sampling framed sp := ⟨hview, hplace, notWaiting⟩
    have item : framed.slr.get sp = { r with watch := some (s.now + 30), framing := .hunt } := PerSpout.get_set_self _ _ _
    have step : exec (.sensorByteArrival sp b) s = .next (framed.substitutePair sp).testGrant := by
      rw [exec_goodFrame hr hc hx, goodFrame_of_headFault hlive hh]
    refine ⟨fun hlimit => ?_, fun hbelow hlimit => ?_⟩
    · rw [step, substitutePair_of_first sampling (by rwa [item]), testGrant_eq]
    · rw [step, substitutePair_of_second sampling (by rwa [item]) (by rwa [item]) (by rwa [item]), testGrant_eq]

end Sys2Proof.Proofs

/-! The weighbridge lines: framing, loss, good frames, and the judgement of a window. -/

namespace Sys2Proof.Proofs

open Sys2Proof.Machine Sys2Proof.Safety Sys2Proof.Laws

/-! ## Framing (R155 to R157) -/

section
variable {s : State} {l : Lane}

theorem exec_weighbridgeByteArrival (hr : Running s) (b : Byte) :
    exec (.weighbridgeByteArrival l b) s = .next (s.bridgeByte l b).testGrant :=
  exec_running (f := fun s => (s.bridgeByte l b).testGrant) hr rfl

theorem bridgeByte_of_hunt {b : Byte} (h : (s.lwu.get l).framing = .hunt) :
    s.bridgeByte l b =
      if 0xC0 ≤ b.toNat ∧ b.toNat ≤ 0xDF then s.updLwu l fun u => { u with framing := .collect [b] (s.now + 5) }
      else s := by
  simp only [State.bridgeByte, h, bridgeCandidate_iff]
  rfl

theorem bridgeByte_of_partial {bytes : List Byte} {gap : Nat} {b : Byte} (hlen : bytes.length < 4)
    (h : (s.lwu.get l).framing = .collect bytes gap) :
    s.bridgeByte l b = s.updLwu l fun u => { u with framing := .collect (bytes ++ [b]) (s.now + 5) } := by
  simp only [State.bridgeByte, h, List.length_append, List.length_singleton]
  exact if_pos (by omega)

/-- A byte that completes a frame is the fifth; the frame's check decides (R156). -/
theorem bridgeByte_of_complete {h g2 g1 g0 b : Byte} {gap : Nat}
    (hc : (s.lwu.get l).framing = .collect [h, g2, g1, g0] gap) :
    s.bridgeByte l b =
      if h ^^^ g2 ^^^ g1 ^^^ g0 = b then s.bridgeGood l [h, g2, g1, g0, b]
      else s.updLwu l fun u => u.reject [h, g2, g1, g0, b] (s.now + 5) := by
  have check : xorBytes [h, g2, g1, g0] = h ^^^ g2 ^^^ g1 ^^^ g0 := by simp [xorBytes]
  rw [← check]
  simp only [State.bridgeByte, hc]
  rfl

end

/-- Settles O52: by the line's framing, as for a sensor line. -/
theorem weighbridgeLineFindsFrames : Obligations.WeighbridgeLineFindsFrames := by
  unfold Obligations.WeighbridgeLineFindsFrames
  intro s l b rejected hr hg
  have settled {t : State} (h : t.fa = s.fa) : t.testGrant = t := testGrant_of_settled (grantsSettled_of_fa h hg)
  have rejects (s : State) (bytes : List Byte) (gap : Nat) :
      (s.updLwu l fun u => u.reject bytes gap) = rejected s (reexamine bridgeCandidate gap bytes.tail) := rfl
  have again (gap : Nat) (bytes : List Byte) : Reexamined 0xC0 0xDF bytes gap (reexamine bridgeCandidate gap bytes) :=
    reexamined_reexamine bridgeCandidate_iff gap bytes
  refine ⟨fun hh => ⟨fun hlo hhi => ?_, fun hout => ?_, ?_, ?_⟩, fun bytes gap hc => ⟨fun hlen => ?_, ?_, ?_, ?_⟩⟩
  · rw [exec_weighbridgeByteArrival hr, bridgeByte_of_hunt hh, if_pos ⟨hlo, hhi⟩]
    exact congrArg Host.Outcome.next (settled rfl)
  · rw [exec_weighbridgeByteArrival hr, bridgeByte_of_hunt hh, if_neg (by omega), settled rfl]
  · exact (exec_running (f := fun s => s.abandonBridge l) hr rfl).trans (by simp only [State.abandonBridge, hh])
  · exact (exec_running hr rfl).trans (by simp only [hh])
  · rw [exec_weighbridgeByteArrival hr, bridgeByte_of_partial hlen hc]
    exact congrArg Host.Outcome.next (settled rfl)
  · refine ⟨_, again _ _, ?_⟩
    rw [← rejects]
    exact (exec_running (f := fun s => s.abandonBridge l) hr rfl).trans (by simp only [State.abandonBridge, hc]; rfl)
  · refine ⟨_, again _ _, ?_⟩
    rw [← rejects]
    exact (exec_running hr rfl).trans (by simp only [hc, State.abandonBridge, State.reach_lwu]; rfl)
  · rintro h g2 g1 g0 rfl hbad
    refine ⟨_, again _ _, ?_⟩
    rw [exec_weighbridgeByteArrival hr, bridgeByte_of_complete hc, if_neg hbad, rejects]
    exact congrArg Host.Outcome.next (settled rfl)

/-! ## The loss timer (R158) -/

theorem updLwu_updLwu {s : State} {l : Lane} (f g : Lwu → Lwu) :
    (s.updLwu l f).updLwu l g = s.updLwu l fun u => g (f u) := by
  simp only [State.updLwu, PerLane.get_set_self, PerLane.set_set]

/-- The weighbridge-lost flag of a window that is not CLOSED (R158). -/
theorem lostFlag_eq (w : Window) :
    (if w.state = .closed then w else { w with bridgeLost := true }) =
      { w with bridgeLost := w.bridgeLost || decide (w.state ≠ .closed) } := by
  obtain ⟨state⟩ := w
  cases state <;> simp

/-- Settles O54. -/
theorem weighbridgeLossIsTimed : Obligations.WeighbridgeLossIsTimed := by
  unfold Obligations.WeighbridgeLossIsTimed
  intro s l hr u
  refine ⟨fun hnone => (exec_running hr rfl).trans (by simp only [show (s.lwu.get l).lossTimer = none from hnone]), ?_⟩
  intro t ht late
  have timer : (s.lwu.get l).lossTimer = some t := ht
  have marked : ((late.updLwu l fun u => { u with lossTimer := some (max s.now t + 1000) }).lwu.get l).line = u.line :=
    (congrArg Lwu.line (PerLane.get_set_self _ _ _)).trans rfl
  refine ⟨fun hlost => ?_, fun hlive => ?_⟩
  · refine (exec_running hr rfl).trans ?_
    simp only [timer]
    split
    · next h => exact absurd ((marked.trans hlost).symm.trans h) (by decide)
    · rw [updLwu_updLwu]
      rfl
  · refine (exec_running hr rfl).trans ?_
    simp only [timer]
    split
    · simp only [State.bridgeLost, pushEvent_eq_reported, updLwu_updLwu, lostFlag_eq]
      refine congrArg Host.Outcome.next (congrArg (reported _ _) ?_)
      rw [State.updLwu_lwu, PerLane.get_set_self]
      rfl
    · next h => exact absurd ((marked.trans hlive).symm.trans h) (by decide)

/-! ## The judgement of a window (R168 to R170) -/

/-- The first test of a list that holds. -/
theorem firstTest_cons {α : Type} (p : Bool) (o d : α) (rest : List (Bool × α)) :
    ((((p, o) :: rest).find? (·.1)).map (·.2)).getD d = if p = true then o else ((rest.find? (·.1)).map (·.2)).getD d := by
  cases p <;> rfl

theorem degraded_eq (c : Contribution) :
    c.degraded = decide (c.subCount ≠ 0 ∨ c.overCount ≠ 0 ∨ c.suspended = true) := by
  simp [Contribution.degraded, Nat.pos_iff_ne_zero, Bool.or_assoc]

theorem nb_eq_netMass (w : Window) : w.nb = netMass w := by
  unfold Window.nb netMass
  cases w.tare with
  | none => rfl
  | some t =>
    cases w.gross with
    | none => rfl
    | some g =>
      refine congrArg some ?_
      omega

theorem outOfBand_eq (nb : Option Int) (nm band : Nat) :
    outOfBand nb nm band = decide (∃ x ∈ nb, nm * band < (x - nm).natAbs * 1000) := by
  cases nb <;> simp [outOfBand]

theorem outcome_eq (w : Window) (p : LaneParams) : w.outcome p = outcomeOf w p := by
  unfold outcomeOf outcomeTests
  dsimp only
  simp only [firstTest_cons, decide_eq_true_eq]
  unfold Window.outcome
  simp only [degraded_eq, outOfBand_eq, nb_eq_netMass, Window.noClaims, Bool.not_not, Option.isNone_iff_eq_none,
    decide_eq_true_eq]
  rfl

theorem contributor_eq (w : Window) (l : Lane) : l.spout w.contributor = contributorOf w l := by
  unfold Window.contributor contributorOf metered Window.nm
  split <;> rfl

/-- The span step has the sign of Nb − Nm; a step of 0 has none (R169). -/
theorem spanStep_eq (span nm alpha : Nat) (nb : Int) :
    spanStep span (nb - nm) alpha nm =
      let step := (span * (nb - nm).natAbs * alpha + 2 * nm) / (4 * nm)
      if (nm : Int) ≤ nb then (step : Int) else -(step : Int) := by
  have size : (span * (nb - nm) * alpha : Int).natAbs = span * (nb - nm).natAbs * alpha := by
    simp only [Int.natAbs_mul, Int.natAbs_natCast]
  have half : 4 * nm / 2 = 2 * nm := by omega
  unfold spanStep roundAway
  dsimp only
  rw [size, half]
  rcases lt_trichotomy (span * (nb - nm) * alpha : Int) 0 with hneg | hzero | hpos
  · have below : nb < nm := by
      by_contra h
      have : (0 : Int) ≤ span * (nb - nm) * alpha :=
        mul_nonneg (mul_nonneg (Int.natCast_nonneg _) (by omega)) (Int.natCast_nonneg _)
      omega
    rw [Int.sign_eq_neg_one_of_neg hneg, if_neg (by omega), neg_one_mul]
  · have none : (span * (nb - nm).natAbs * alpha + 2 * nm) / (4 * nm) = 0 := by
      rw [← size, hzero, Int.natAbs_zero, Nat.div_eq_zero_iff]
      omega
    rw [hzero, none]
    simp
  · have above : nm ≤ nb := by
      by_contra h
      have : (span : Int) * (nb - nm) * alpha ≤ 0 :=
        mul_nonpos_of_nonpos_of_nonneg (mul_nonpos_of_nonneg_of_nonpos (Int.natCast_nonneg _) (by omega))
          (Int.natCast_nonneg _)
      omega
    rw [Int.sign_eq_one_of_pos hpos, if_pos above, one_mul]

/-- The corrected span as the Flow Computer stores it (R37, R169). -/
theorem setSpan_eq (span nm alpha : Nat) (nb : Int) :
    (clampInt 1 Config.spanMax (span + spanStep span (nb - nm) alpha nm)).toNat = correctedSpan span nm alpha nb := by
  have max : (Config.spanMax : Int) = 1048575 := rfl
  rw [spanStep_eq]
  unfold correctedSpan clampInt
  dsimp only
  split <;> omega

theorem correctSpan_eq (s : State) (l : Lane) (w : Window) (alpha : Nat) :
    s.correctSpan l w alpha =
      let sp := contributorOf w l
      let span := correctedSpan (s.fc.get sp).span (metered w) alpha ((netMass w).getD 0)
      ({ s with fc := s.fc.set sp { s.fc.get sp with span := span } }, some (sp, span)) := by
  unfold State.correctSpan
  dsimp only
  rw [contributor_eq, nb_eq_netMass]
  simp only [Fc.setSpan, State.updFc, PerSpout.get_set_self, show w.nm = metered w from rfl, setSpan_eq]

/-- A window judged with its gross or without one (R168 to R170). -/
theorem judged_eq (s : State) (l : Lane) (gross : Option Nat) : judged s l gross = windowJudged s l gross := by
  unfold judged windowJudged
  dsimp only
  simp only [outcome_eq, State.updWindow_lwu, PerLane.get_set_self]
  split
  · next h =>
    rw [correctSpan_eq]
    simp only [State.reportResult, pushEvent_eq_reported, Window.result, nb_eq_netMass, h, decide_true, State.updWindow,
      State.updLwu, PerLane.get_set_self, PerLane.set_set]
    rfl
  · next h =>
    simp only [State.reportResult, pushEvent_eq_reported, Window.result, nb_eq_netMass, h, decide_false, State.updWindow,
      State.updLwu, PerLane.get_set_self, PerLane.set_set]
    rfl

/-! ## What follows a close (R161, R164, R170) -/

section
variable {s : State} {l : Lane}

theorem moveWindow_eq (f : Window → Window) : s.moveWindow l f = windowMoved s l (f (s.lwu.get l).window) := by
  have lit (st : WindowState) : st.lit = decide (st = .taring ∨ st = .weighing) := by cases st <;> rfl
  unfold State.moveWindow windowMoved
  rw [lit]
  rfl

theorem noClaims_iff_eq (w : Window) : w.noClaims = true ↔ w.claims = ⟨false, false⟩ := by
  obtain ⟨_, _, _, ⟨lower, upper⟩⟩ := w
  cases lower <;> cases upper <;> simp [Window.noClaims]

/-- What a judgement leaves in the lane: the window with its gross and its timer stopped, the line and the parameters. -/
theorem windowJudged_lane (gross : Option Nat) :
    ((windowJudged s l gross).lwu.get l).window = { (s.lwu.get l).window with gross := gross, timer := none } ∧
      ((windowJudged s l gross).lwu.get l).line = (s.lwu.get l).line ∧
      ((windowJudged s l gross).lwu.get l).params = (s.lwu.get l).params := by
  simp [windowJudged, reported]

theorem closeWindow_eq (gross : Option Nat) : s.closeWindow l gross = (windowJudged s l gross).nextWindow l := by
  rw [closeWindow_eq_judged, judged_eq]

theorem nextWindow_of_noClaims (h : (s.lwu.get l).window.claims = ⟨false, false⟩) :
    s.nextWindow l = windowMoved s l { (s.lwu.get l).window with state := .closed, timer := none } := by
  unfold State.nextWindow
  dsimp only
  rw [if_pos ((noClaims_iff_eq _).2 h), moveWindow_eq]

theorem nextWindow_of_gross {g : Nat} (h : (s.lwu.get l).window.claims ≠ ⟨false, false⟩)
    (hg : (s.lwu.get l).window.gross = some g) :
    s.nextWindow l =
      (windowMoved s l
        { (s.lwu.get l).window.created (s.lwu.get l).line with
          state := .opened, tare := some g, timer := none, claims := ⟨false, false⟩ }).releaseClaims l
        (s.lwu.get l).window.claims := by
  unfold State.nextWindow
  dsimp only
  rw [if_neg fun e => h ((noClaims_iff_eq _).1 e)]
  simp only [hg, moveWindow_eq]

theorem nextWindow_of_noGross (h : (s.lwu.get l).window.claims ≠ ⟨false, false⟩)
    (hg : (s.lwu.get l).window.gross = none) :
    s.nextWindow l =
      windowMoved s l
        { (s.lwu.get l).window.created (s.lwu.get l).line with
          state := .taring
          timer := some ⟨.tare, s.now + (s.lwu.get l).params.tareTimeout * 1000⟩ } := by
  unfold State.nextWindow
  dsimp only
  rw [if_neg fun e => h ((noClaims_iff_eq _).1 e)]
  simp only [hg, moveWindow_eq]

/-- A judgement without a gross corrects no span (R168). -/
theorem outcomeOf_of_noGross (w : Window) (p : LaneParams) (h : w.gross = none) : outcomeOf w p ≠ .corrected := by
  rw [← outcome_eq]
  unfold Window.outcome
  rw [h]
  split
  · decide
  · split
    · decide
    · rw [if_pos (show (none : Option Nat).isNone = true from rfl)]
      decide

end

/-- Settles O56. -/
theorem grossTimerClosesTheWindow : Obligations.GrossTimerClosesTheWindow := by
  unfold Obligations.GrossTimerClosesTheWindow
  intro s l t u late judged w hr hg ht
  obtain ⟨hw, hline, hparams⟩ := windowJudged_lane (s := late) (l := l) none
  have window : w = { u.window with gross := none, timer := none } := hw
  have outcome : outcomeOf { u.window with gross := none, timer := none } u.params ≠ .corrected :=
    outcomeOf_of_noGross _ _ rfl
  have step : exec (.grossTimerExpiry l) s = .next ((judged.nextWindow l).testGrant) := by
    refine (exec_running hr rfl).trans ?_
    simp only [show (s.lwu.get l).window.timer = some ⟨.gross, t⟩ from ht, closeWindow_eq]
    rfl
  have settled (x : Window) : (windowMoved judged l x).testGrant = windowMoved judged l x :=
    testGrant_of_settled (grantsSettled_of_fa (s := s) rfl hg)
  have claims : w.claims = u.window.claims := by rw [window]
  refine ⟨by rw [window]; exact outcome, ?_, fun hnone => ?_, fun hsome => ?_⟩
  · exact if_neg fun h => outcome (of_decide_eq_true h)
  · rw [step, nextWindow_of_noClaims (claims.trans hnone), settled, show (judged.lwu.get l).window = _ from window, window]
  · rw [step, nextWindow_of_noGross (by rwa [show (judged.lwu.get l).window.claims = _ from claims])
      (by rw [show (judged.lwu.get l).window = _ from window]), settled, show (judged.lwu.get l).line = u.line from hline,
      show (judged.lwu.get l).params = u.params from hparams]
    rfl

/-! ## Good frames (R155, R158 to R160) -/

theorem toNat_append_byte {n : Nat} (x : BitVec n) (b : Byte) : (x ++ b).toNat = 256 * x.toNat + b.toNat := by
  rw [BitVec.toNat_append, ← Nat.shiftLeft_add_eq_or_of_lt b.isLt, Nat.shiftLeft_eq, Nat.mul_comm]

theorem bridgeReading_eq (h g2 g1 g0 b : Byte) : bridgeReading [h, g2, g1, g0, b] = bridgeReadingOf h g2 g1 g0 := by
  have gross : (tripleAt 1 [h, g2, g1, g0, b]).toNat = 65536 * g2.toNat + 256 * g1.toNat + g0.toNat := by
    show ((g2 ++ g1 : BitVec 16) ++ g0 : BitVec 24).toNat = _
    rw [toNat_append_byte, toNat_append_byte]
    omega
  unfold bridgeReading bridgeReadingOf
  rw [gross]
  rfl

section
variable {s : State} {l : Lane}

/-- What a good frame leaves in the lane, before a stable reading is used. -/
def heardLane (s : State) (l : Lane) (r : BridgeReading) : Lwu :=
  let u := s.lwu.get l
  let restores := decide (u.line = .lost) && decide (2 ≤ u.restoreRun)
  { u with
    framing := .hunt
    lossTimer := some (s.now + 1000)
    line := if restores then .live else u.line
    restoreRun := if u.line = .live then u.restoreRun else if restores then 0 else u.restoreRun + 1
    firstAcq := u.firstAcq || restores
    lastGross := some r
    stability := stabilityAfter u r }

theorem bridgeHeard_rest (r : BridgeReading) :
    (bridgeHeard s l r).lwu.get l = heardLane s l r ∧ (bridgeHeard s l r).now = s.now ∧
      (bridgeHeard s l r).sc = s.sc ∧ (bridgeHeard s l r).fa = s.fa := by
  unfold bridgeHeard
  dsimp only
  generalize (_ && _ && _ : Bool) = p
  cases p <;> exact ⟨PerLane.get_set_self _ _ _, rfl, rfl, rfl⟩

/-- The restore run and the stability count of a good frame (R158 to R160). -/
theorem bridgeRestore_heard (r : BridgeReading) :
    (((s.updLwu l fun u => { u with framing := .hunt, lossTimer := some (s.now + 1000) }).bridgeRestore l).updLwu l fun u =>
      { u with lastGross := some r, stability := if r.still then satAdd 255 u.stability 1 else 0 }) = bridgeHeard s l r := by
  have still : (if r.still = true then satAdd 255 (s.lwu.get l).stability 1 else 0) = stabilityAfter (s.lwu.get l) r := by
    unfold stabilityAfter BridgeReading.still satAdd
    cases r.motion <;> cases r.overload <;> rfl
  unfold State.bridgeRestore bridgeHeard
  dsimp only
  rw [← still]
  simp only [State.updLwu_lwu, PerLane.get_set_self]
  cases hline : (s.lwu.get l).line with
  | live => simp [hline, State.updLwu, reportedIf]
  | lost =>
    by_cases hrun : 2 ≤ (s.lwu.get l).restoreRun
    · cases hacq : (s.lwu.get l).firstAcq with
      | false => simp [hline, hrun, hacq, State.updLwu, reportedIf, Config.restoreFrames]
      | true =>
        simp [hline, hrun, hacq, State.updLwu, reportedIf, Config.restoreFrames, pushEvent_eq_reported, reported, queued,
          State.msTime]
    · simp [hline, hrun, State.updLwu, reportedIf, Config.restoreFrames]

theorem heardLane_live (r : BridgeReading) : decide ((heardLane s l r).line = .live) = liveAfter (s.lwu.get l) := by
  unfold heardLane liveAfter
  cases hline : (s.lwu.get l).line with
  | live => simp [hline]
  | lost =>
    simp only [hline, decide_true, Bool.true_and, reduceCtorEq, decide_false, Bool.false_or]
    cases decide (2 ≤ (s.lwu.get l).restoreRun) <;> rfl

/-- A good frame, and the use of a stable reading (R158 to R160). -/
theorem bridgeGood_eq (h g2 g1 g0 b : Byte) :
    s.bridgeGood l [h, g2, g1, g0, b] =
      let r := bridgeReadingOf h g2 g1 g0
      if stableBy (s.lwu.get l) r = true then (bridgeHeard s l r).stableReading l r.gross else bridgeHeard s l r := by
  have stable (r : BridgeReading) :
      (r.still && decide ((heardLane s l r).params.nStable ≤ (heardLane s l r).stability) &&
        decide ((heardLane s l r).line = .live)) = stableBy (s.lwu.get l) r := by
    have still : r.still = decide (r.motion = false ∧ r.overload = false) := by
      unfold BridgeReading.still
      cases r.motion <;> cases r.overload <;> rfl
    rw [still, heardLane_live]
    rfl
  unfold State.bridgeGood
  dsimp only
  rw [bridgeReading_eq, show Config.bridgeLoss = 1000 from rfl, bridgeRestore_heard, (bridgeHeard_rest _).1, stable]

theorem exec_goodBridge {h g2 g1 g0 b : Byte} {gap : Nat} (hr : Running s)
    (hc : (s.lwu.get l).framing = .collect [h, g2, g1, g0] gap) (hx : h ^^^ g2 ^^^ g1 ^^^ g0 = b) :
    exec (.weighbridgeByteArrival l b) s = .next (s.bridgeGood l [h, g2, g1, g0, b]).testGrant := by
  rw [exec_weighbridgeByteArrival hr, bridgeByte_of_complete hc, if_pos hx]

/-- A single claim that waits, released (R164). -/
theorem claimsReleased_single (p : Side) : claimsReleased s l ((⟨false, false⟩ : PerSide Bool).set p true) =
    claimReleased s (l.spout p) := by
  cases p <;> rfl

theorem stableReading_taring {g : Nat} (h : (s.lwu.get l).window.state = .taring) :
    s.stableReading l g =
      (windowMoved s l
        { (s.lwu.get l).window with state := .opened, tare := some g, timer := none, claims := ⟨false, false⟩ }).releaseClaims
        l (s.lwu.get l).window.claims := by
  simp only [State.stableReading, h, State.openWindow, moveWindow_eq]

theorem stableReading_weighing {g : Nat} (h : (s.lwu.get l).window.state = .weighing) :
    s.stableReading l g = (windowJudged s l (some g)).nextWindow l := by
  simp only [State.stableReading, h, closeWindow_eq]

theorem stableReading_still {g : Nat} (h : (s.lwu.get l).window.state = .closed ∨ (s.lwu.get l).window.state = .opened) :
    s.stableReading l g = s := by
  rcases h with h | h <;> simp only [State.stableReading, h]

end

/-- Settles O53: the frame is heard; a stable reading is then used by the window's state. -/
theorem goodWeighbridgeFrames : Obligations.GoodWeighbridgeFrames := by
  unfold Obligations.GoodWeighbridgeFrames
  intro s l h g2 g1 g0 b gap u r heard judged w next claimsStand hr hg hc hx
  obtain ⟨lane, _, hsc, hfa⟩ := bridgeHeard_rest (s := s) (l := l) r
  have hlane : heard.lwu.get l = heardLane s l r := lane
  have hwindow : (heard.lwu.get l).window = u.window := (congrArg Lwu.window lane).trans rfl
  obtain ⟨jwindow, jline, _⟩ := windowJudged_lane (s := heard) (l := l) (some r.gross)
  have hw : w = { u.window with gross := some r.gross, timer := none } := by
    rw [show w = _ from jwindow, hwindow]
  have step : exec (.weighbridgeByteArrival l b) s =
      .next (if stableBy u r = true then heard.stableReading l r.gross else heard).testGrant := by
    rw [exec_goodBridge hr hc hx, bridgeGood_eq]
  have stepStable (h : stableBy u r = true) : exec (.weighbridgeByteArrival l b) s =
      .next (heard.stableReading l r.gross).testGrant := by rw [step, if_pos h]
  have claims : w.claims = u.window.claims := by rw [hw]
  have released (x : State) (w : Window) (xsc : x.sc = s.sc) (xfa : x.fa = s.fa) (hstand : claimsStand) :
      (windowMoved x l w).releaseClaims l u.window.claims = claimsReleased (windowMoved x l w) l u.window.claims := by
    refine releaseClaims_eq fun p hp => ?_
    rw [show (windowMoved x l w).sc = s.sc from xsc, show (windowMoved x l w).fa = s.fa from xfa]
    exact hstand p hp
  have single (x : State) (xfa : x.fa = s.fa) (p : Side) (hp : u.window.claims = (⟨false, false⟩ : PerSide Bool).set p true)
      (hcond : s.fa.condition ≠ .normal) :
      (claimsReleased x l u.window.claims).testGrant = claimReleased x (l.spout p) := by
    rw [hp, claimsReleased_single]
    refine testGrant_of_condition ?_
    show x.fa.condition ≠ .normal
    rwa [xfa]
  refine ⟨fun hstill => ?_, fun hstable hst hstand => ?_, fun hstable hst hnone => ?_, fun hstable hst hsome hstand => ?_⟩
  · show exec (.weighbridgeByteArrival l b) s = .next heard
    have same : (if stableBy u r = true then heard.stableReading l r.gross else heard) = heard := by
      rcases hstill with hfalse | hst
      · rw [hfalse]
        rfl
      · rw [stableReading_still (by rwa [hwindow]), ite_self]
    rw [step, same, testGrant_of_settled (grantsSettled_of_fa hfa hg)]
  · intro opened
    have opens : exec (.weighbridgeByteArrival l b) s = .next (claimsReleased opened l u.window.claims).testGrant := by
      rw [stepStable hstable, stableReading_taring (by rwa [hwindow]), hwindow, released heard _ hsc hfa hstand]
    refine ⟨opens.trans (by rw [testGrant_eq]), fun p hp hcond => ?_⟩
    exact opens.trans (by rw [single opened hfa p hp hcond])
  · have closes : heard.stableReading l r.gross = windowMoved judged l { w with state := .closed } := by
      rw [stableReading_weighing (by rwa [hwindow]), nextWindow_of_noClaims (claims.trans hnone)]
      show windowMoved judged l { w with state := .closed, timer := none } = _
      rw [hw]
    show exec (.weighbridgeByteArrival l b) s = _
    rw [stepStable hstable, closes]
    exact congrArg Host.Outcome.next (testGrant_of_settled (grantsSettled_of_fa (s := s) hfa hg))
  · intro opened
    have live : (judged.lwu.get l).line = .live := by
      have after : liveAfter u = true := (Bool.and_eq_true_iff.1 hstable).2
      rw [← heardLane_live r] at after
      rw [show (judged.lwu.get l).line = (heard.lwu.get l).line from jline, hlane]
      exact of_decide_eq_true after
    have opens : exec (.weighbridgeByteArrival l b) s = .next (claimsReleased opened l u.window.claims).testGrant := by
      have gross : (judged.lwu.get l).window.gross = some r.gross := by
        rw [show (judged.lwu.get l).window = _ from hw]
      rw [stepStable hstable, stableReading_weighing (by rwa [hwindow]), nextWindow_of_gross (claims ▸ hsome) gross,
        show (judged.lwu.get l).window.claims = _ from claims, released judged _ hsc hfa hstand, live]
      rfl
    refine ⟨opens.trans (by rw [testGrant_eq]), fun p hp hcond => ?_⟩
    exact opens.trans (by rw [single opened hfa p hp hcond])

end Sys2Proof.Proofs

/-! Order requests, and the tests of START and CLEAR-LOCKOUT. -/

namespace Sys2Proof.Proofs

open Sys2Proof.Machine Sys2Proof.Safety Sys2Proof.Laws

/-! ## Codes and replies (R179, R180, R182) -/

section
variable {s : State}

/-- A request that is taken by a ready link: its block's step and the reply. -/
theorem exec_replied {i : Instr} {kind : Byte} {body : List Byte} {t : State} {r : Reply} (hready : Ready s)
    (henc : encodeRequest i = some (kind, body)) (h : runRequest i s = (t, r)) (hsl : t.sl = s.sl) (hnow : t.now = s.now) :
    exec i s = .next (replied s t kind r) := by
  rw [exec_of_encodeRequest henc, request_of_ready hready kind _ (by rwa [h]) (by rwa [h]), h]

theorem withSpout_spoutCode (sp : Spout) (f : Spout → State × Reply) : withSpout (spoutCode sp) s f = f sp := by
  cases sp <;> rfl

theorem withLane_laneCode (l : Lane) (f : Lane → State × Reply) : withLane (laneCode l) s f = f l := by
  cases l <;> rfl

theorem slotOfCode_slotCode (i : Fin 16) : slotOfCode (slotCode i) = some i := by
  revert i
  decide

end

/-- A flag of a bit set, weighed. -/
theorem ite_zero_eq_mul (p : Prop) [Decidable p] (k : Nat) : (if p then 0 else k) = k * (decide (¬ p)).toNat := by
  by_cases h : p <;> simp [h]

theorem ite_eq_mul (p : Prop) [Decidable p] (k : Nat) : (if p then k else 0) = k * (decide p).toNat := by
  by_cases h : p <;> simp [h]

/-! ## LOAD-ORDER (R64, R65) -/

section
variable (f : OrderFields)

theorem optFails_iff (x : OptField) (limit : Nat) :
    optFails x limit = true ↔ 1 < x.presence.toNat ∨ x.presence = 1 ∧ limit < x.value.toNat := by
  have zero : x.presence = 0 ↔ x.presence.toNat = 0 := BitVec.toNat_inj.symm
  have one : x.presence = 1 ↔ x.presence.toNat = 1 := BitVec.toNat_inj.symm
  unfold optFails
  split
  · next h => simp only [zero, one] at h ⊢; simp; omega
  · next h =>
    split
    · next h1 => simp only [one] at h1 ⊢; simp [h1]
    · next h1 => simp only [zero, one] at h h1 ⊢; simp; omega

theorem tagFails_iff (tag : List Byte) : tagFails tag = true ↔ ∃ b ∈ tag, b.toNat < 0x20 ∨ 0x7E < b.toNat := by
  simp [tagFails]

theorem find?_cons_decide {α : Type} (p : α → Prop) [DecidablePred p] (x : α) (xs : List α) :
    ((x :: xs).find? fun y => decide (p y)) = if p x then some x else xs.find? fun y => decide (p y) := by
  by_cases h : p x <;> simp [h]

open Classical in
/-- The field that LOAD-ORDER names is the first of the fields 2 to 8 that fails. -/
theorem orderFieldFailure_eq :
    orderFieldFailure f = (List.range' 2 7).find? fun n => decide (orderFieldFails f n) := by
  rw [show List.range' 2 7 = [2, 3, 4, 5, 6, 7, 8] from rfl]
  simp only [find?_cons_decide, List.find?_nil]
  simp only [orderFieldFailure, tagFails_iff, optFails_iff, orderFieldFails]

theorem orderFieldFailure_of_first {n : Nat} (hlo : 2 ≤ n) (hhi : n ≤ 8) (hn : orderFieldFails f n)
    (hfirst : ∀ m, 2 ≤ m → m < n → ¬ orderFieldFails f m) : orderFieldFailure f = some n := by
  classical
  rw [orderFieldFailure_eq, List.find?_range'_eq_some]
  refine ⟨decide_eq_true hn, List.mem_range'_1.2 ⟨hlo, by omega⟩, fun m hm hlt => ?_⟩
  simpa using hfirst m hm hlt

theorem orderFieldFailure_of_valid (h : ∀ n, 2 ≤ n → n ≤ 8 → ¬ orderFieldFails f n) : orderFieldFailure f = none := by
  classical
  rw [orderFieldFailure_eq, List.find?_eq_none]
  intro n hn
  obtain ⟨hlo, hhi⟩ := List.mem_range'_1.1 hn
  simpa using h n hlo (by omega)

end

theorem freeSlot_of_lowest {t : Ot} {i : Fin 16} (h : (t.slot i).state = .free)
    (hlow : ∀ j, j < i → (t.slot j).state ≠ .free) : t.freeSlot = some i := by
  rw [Ot.freeSlot, ← Fin.find?_eq_find?_finRange, Fin.find?_eq_some_iff]
  exact ⟨decide_eq_true h, fun j hj => decide_eq_false (hlow j hj)⟩

theorem freeSlot_of_none {t : Ot} (h : ∀ j, (t.slot j).state ≠ .free) : t.freeSlot = none := by
  rw [Ot.freeSlot, ← Fin.find?_eq_find?_finRange, Fin.find?_eq_none_iff]
  exact fun j => decide_eq_false (h j)

/-- Settles O38. -/
theorem loadOrderTakesTheLowestFreeSlot : Obligations.LoadOrderTakesTheLowestFreeSlot := by
  unfold Obligations.LoadOrderTakesTheLowestFreeSlot
  intro s sp f i q valid hready hcode htag
  have tag : ¬ tagWf f.tag = false := by simp [tagWf, htag]
  have run : runRequest (.loadOrder f) s =
      match orderFieldFailure f with
      | some n => (s, .badField n)
      | none =>
        if f.product.toNat ≠ (s.params.get sp).product then (s, .refuse .productMismatch)
        else if 4 ≤ q.length then (s, .refuse .queueFull)
        else
          match s.ot.freeSlot with
          | none => (s, .refuse .tableFull)
          | some i =>
            (s.updOt fun t => t.place sp i (orderRecord sp f), .ok [slotCode i, byteOf (q.length + 1)]) :=
    (if_neg tag).trans (by rw [hcode, withSpout_spoutCode]; rfl)
  refine ⟨fun n hlo hhi hn hfirst => ?_, fun hvalid => ⟨fun hproduct => ?_, fun hproduct => ⟨fun hfull => ?_, fun hroom hnone => ?_,
    fun hroom hfree hlow => ?_⟩⟩⟩
  · exact exec_unchanged hready rfl (run.trans (by rw [orderFieldFailure_of_first f hlo hhi hn hfirst]; rfl))
  all_goals rw [orderFieldFailure_of_valid f hvalid] at run
  · exact exec_unchanged hready rfl (run.trans (if_pos hproduct))
  all_goals replace run := run.trans (if_neg (not_not_intro hproduct))
  · exact exec_unchanged hready rfl (run.trans (if_pos hfull))
  all_goals replace run := run.trans (if_neg (Nat.not_le.2 hroom))
  · exact exec_unchanged hready rfl (run.trans (by rw [freeSlot_of_none hnone]; rfl))
  · rw [freeSlot_of_lowest hfree hlow] at run
    exact exec_replied hready rfl run rfl rfl

/-! ## RELEASE-ORDER (R76) -/

/-- Settles O40. -/
theorem releaseFreesAnEndedSlot : Obligations.ReleaseFreesAnEndedSlot := by
  unfold Obligations.ReleaseFreesAnEndedSlot
  intro s i n sp hready r freed
  have run : runRequest (.releaseOrder (slotCode i)) s =
      if r.state.ended then
        ((match r.spout with
          | none => freed
          | some sp => freed.forgetEnded i sp), .ok [slotCode i])
      else (s, .refuse .notEnded) := by
    simp only [runRequest, releaseRequest, slotOfCode_slotCode]
    rfl
  refine ⟨fun hn => ?_, fun hdone haborted => ?_, fun hended hsp => ⟨fun hother => ?_, fun hlast => ?_⟩⟩
  · exact exec_unchanged hready rfl (by simp only [runRequest, releaseRequest, slotOfCode_of_gt hn]; rfl)
  · have not : ¬ r.state.ended = true := by
      cases h : r.state <;> simp_all [SlotState.ended]
    exact exec_unchanged hready rfl (run.trans (if_neg not))
  all_goals
    have ended : r.state.ended = true := by rcases hended with h | h <;> rw [h] <;> rfl
    rw [if_pos ended, hsp] at run
  · refine exec_replied hready rfl (run.trans ?_) rfl rfl
    exact congrArg (fun t : State => (t, Reply.ok [slotCode i])) (if_neg hother)
  · refine exec_replied hready rfl (run.trans ?_) rfl rfl
    exact congrArg (fun t : State => (t, Reply.ok [slotCode i])) (if_pos hlast)

/-! ## The tests of START (R85 to R87) -/

section
variable {s : State} {sp : Spout}

theorem permissivesHold_iff : (s.permissiveFailures sp).any id = true ↔ ¬ permissivesHold s sp := by
  simp only [State.permissiveFailures, permissivesHold, List.any_cons, List.any_nil, id, Bool.or_eq_true, decide_eq_true_eq,
    Bool.false_eq_true, or_false, not_and_or]

theorem inputChanges_eq : s.rq.inputChanges sp = inputChangesOf s sp := by
  unfold Rq.inputChanges inputChangesOf
  congr 2
  funext e
  obtain ⟨source, time, body⟩ := e
  cases source <;> cases body <;> simp [Event.inputChangeOf]

/-- START's tests in their order (R85). -/
theorem run_start : runRequest (.start (spoutCode sp)) s =
    let c := s.sc.get sp
    if c.state ≠ .idle then (s, .refuse .notIdle)
    else
      match s.ot.queues.get sp with
      | [] => (s, .refuse .noOrder)
      | i :: rest =>
        if c.lockout ≠ .empty then (s, ⟨.lockedOut, [c.lockout.byte]⟩)
        else if (s.permissiveFailures sp).any id then (s, ⟨.permissive, [setByte (s.permissiveFailures sp)]⟩)
        else if c.lineView ≠ .live then (s, .refuse .sensorLost)
        else if s.rq.inputChanges sp ≠ 0 ∨ s.rq.lost ≠ 0 then
          (s, ⟨.staleView, [byteOf (s.rq.inputChanges sp), byteOf s.rq.lost]⟩)
        else (s.acceptStart sp i rest, .ok [slotCode i, byteOf rest.length]) :=
  withSpout_spoutCode sp _

end

/-- Settles O41. -/
theorem startIsRefusedInOrder : Obligations.StartIsRefusedInOrder := by
  unfold Obligations.StartIsRefusedInOrder
  intro s sp hready c refused failing
  have bits : setByte (s.permissiveFailures sp) = byteOf failing := by
    refine congrArg (BitVec.ofNat 8) ?_
    simp only [failing, State.permissiveFailures, bitSet, List.foldr, ite_zero_eq_mul, ne_eq]
    omega
  have run := run_start (s := s) (sp := sp)
  refine ⟨fun hst => ?_, fun hst hnone => ?_, fun hst hsome => ?_⟩
  · exact exec_unchanged hready rfl (run.trans (if_pos hst))
  all_goals replace run := run.trans (if_neg (not_not_intro hst))
  · rw [hnone] at run
    exact exec_unchanged hready rfl run
  · obtain ⟨i, rest, hq⟩ := List.exists_cons_of_ne_nil hsome
    rw [hq] at run
    refine ⟨fun hlock => exec_unchanged hready rfl (run.trans (if_pos hlock)), fun hlock => ?_⟩
    replace run := run.trans (if_neg (not_not_intro hlock))
    refine ⟨fun hperm => ?_, fun hperm => ?_⟩
    · rw [bits] at run
      exact exec_unchanged hready rfl (run.trans (if_pos (permissivesHold_iff.2 hperm)))
    · replace run := run.trans (if_neg fun h => permissivesHold_iff.1 h hperm)
      refine ⟨fun hline => ?_, fun hline hstale => ?_⟩
      · exact exec_unchanged hready rfl (run.trans (if_pos (by rw [hline]; decide)))
      · replace run := run.trans (if_neg (not_not_intro hline))
        rw [inputChanges_eq] at run
        exact exec_unchanged hready rfl (run.trans (if_pos hstale))

/-! ## CLEAR-LOCKOUT (R137) -/

/-- Settles O44. -/
theorem clearLockoutTestsTheConditions : Obligations.ClearLockoutTestsTheConditions := by
  unfold Obligations.ClearLockoutTestsTheConditions
  intro s sp hready c down away present clear
  have run : runRequest (.clearLockout (spoutCode sp)) s =
      if c.state ≠ .idle then (s, .refuse .notIdle)
      else if c.lockout = .empty then (s, .ok [c.lockout.byte])
      else if (s.lockoutConditions sp).any id then
        (s, ⟨.conditionPresent, [setByte (s.lockoutConditions sp)]⟩)
      else
        ((s.updSc sp fun c => { c with lockout := .empty }).notice fun v => { v with lockout := v.lockout.set sp false },
          .ok [c.lockout.byte]) := withSpout_spoutCode sp _
  have bits : setByte (s.lockoutConditions sp) = byteOf present := by
    refine congrArg (BitVec.ofNat 8) ?_
    simp only [present, State.lockoutConditions, bitSet, List.foldr, ite_zero_eq_mul, ite_eq_mul, Bool.decide_and,
      Bool.decide_eq_true, ne_eq, c, Bool.toNat_false]
    omega
  have stands : (s.lockoutConditions sp).any id = true ↔ ¬ clear := by
    simp only [clear, down, away, State.lockoutConditions, List.any_cons, List.any_nil, id, Bool.or_eq_true, Bool.and_eq_true,
      decide_eq_true_eq, Bool.false_eq_true, or_false, false_or, not_and_or, Classical.not_imp]
    rfl
  refine ⟨fun hst => ?_, fun hst hnone => ?_, fun hst hsome hpresent => ?_, fun hst hsome habsent => ?_⟩
  · exact exec_unchanged hready rfl (run.trans (if_pos hst))
  all_goals replace run := run.trans (if_neg (not_not_intro hst))
  · refine exec_unchanged hready rfl ((run.trans (if_pos hnone)).trans ?_)
    rw [hnone]
    rfl
  all_goals replace run := run.trans (if_neg hsome)
  · rw [bits] at run
    exact exec_unchanged hready rfl (run.trans (if_pos (stands.2 hpresent)))
  · exact exec_replied hready rfl (run.trans (if_neg fun h => stands.1 h habsent)) rfl rfl

/-! ## An accepted START (R67, R88 to R91, R163) -/

section
variable {s : State} {sp : Spout}

/-- The entry to WAIT_FEED of a spout that does not wait yet (R91). -/
theorem enterWaitFeed_eq (hr : sp ∉ s.fa.requests) : s.enterWaitFeed sp = claimReleased s sp := by
  unfold State.enterWaitFeed State.requestFeed State.setStage
  simp only [setSpoutState_eq]
  unfold claimReleased enters State.updFa State.updSc
  simp [hr]

/-- A change of state reads of the Spout Controller only the items it is given (R83). -/
theorem enters_loaded (i : Fin 16) (rest : List (Fin 16)) (c : Sc) :
    enters (loaded s sp i rest) sp c = enters (started s sp i rest) sp c := by
  unfold enters loaded started State.activate State.updSc State.updFc State.updSlot State.updOt
  simp only [PerSpout.set_set, PerSpout.get_set_self]
  rfl

/-- Of two changes between states other than IDLE the second stands (R33, R83). -/
theorem enters_enters {c d : Sc} (hc : c.state ≠ .idle) (hd : d.state ≠ .idle) :
    enters (enters s sp c) sp d = enters s sp d := by
  unfold enters
  simp [tracked, Iob.recompute, hc, hd]
  exact ⟨rfl, rfl⟩

end

section
variable {s : State} {sp : Spout}

/-- A claim on a CLOSED window creates one that is TARING (R161, R163). -/
theorem claimTare_of_closed (h : (s.lwu.get sp.lane).window.state = .closed) :
    (s.claimTare sp).1 =
      s.moveWindow sp.lane fun w =>
        { w.created (s.lwu.get sp.lane).line with
          state := .taring
          claims := w.claims.set sp.side true
          timer := some ⟨.tare, s.now + (s.lwu.get sp.lane).params.tareTimeout * 1000⟩ } := by
  simp only [State.claimTare, h]

/-- A claim on a TARING or WEIGHING window joins those that wait (R163). -/
theorem claimTare_of_claimed
    (h : (s.lwu.get sp.lane).window.state = .taring ∨ (s.lwu.get sp.lane).window.state = .weighing) :
    (s.claimTare sp).1 = s.updWindow sp.lane fun w => { w with claims := w.claims.set sp.side true } := by
  rcases h with h | h <;> simp only [State.claimTare, h]

end

/-- Settles O42: the order is loaded, then the lane's window decides between WAIT_FEED and TARE. -/
theorem startBeginsTheLoad : Obligations.StartBeginsTheLoad := by
  unfold Obligations.StartBeginsTheLoad
  intro s sp i rest c u fresh waits tares begins hready hst hq hlock hperm hline hchanges hlost
  have item : (loaded s sp i rest).sc.get sp = fresh := loaded_item s sp i rest
  have run : runRequest (.start (spoutCode sp)) s =
      (((loaded s sp i rest).beginLoad sp).testGrant, .ok [slotCode i, byteOf rest.length]) := by
    rw [run_start, hq]
    dsimp only
    rw [if_neg (not_not_intro hst), if_neg (not_not_intro hlock), if_neg fun h => permissivesHold_iff.1 h hperm,
      if_neg (not_not_intro hline), if_neg]
    · rfl
    · rw [inputChanges_eq]
      exact fun h => h.elim (fun h => h hchanges) (fun h => h hlost)
  have accepted {t : State} (h : ((loaded s sp i rest).beginLoad sp).testGrant = t) (hsl : t.sl = s.sl)
      (hnow : t.now = s.now) : begins t := by
    rw [h] at run
    exact exec_replied hready rfl run hsl hnow
  have tare : (loaded s sp i rest).setSpoutState sp .tare = tares := by
    rw [setSpoutState_eq, item, enters_loaded]
  refine ⟨fun hway hwait => ?_, fun hon hclosed hg => ?_, fun hon hwindow hg => ?_⟩
  · have entered : (loaded s sp i rest).beginLoad sp = waits := by
      have direct : claimReleased (loaded s sp i rest) sp = waits := by
        unfold claimReleased
        rw [item, enters_loaded]
        rfl
      by_cases hon : u.params.enable = true
      · have hopened : u.window.state = .opened := hway.resolve_left (by rw [hon]; decide)
        rw [beginLoad_of_opened (loaded s sp i rest) sp hon hopened, tare, enterWaitFeed_eq (s := tares) hwait, ← direct]
        unfold claimReleased
        have tareItem : tares.sc.get sp = { fresh with state := .tare } := PerSpout.get_set_self _ _ _
        rw [tareItem, enters_enters, item, enters_loaded]
        · rfl
        · exact (nomatch ·)
        · exact (nomatch ·)
      · rw [beginLoad_of_disabled (loaded s sp i rest) sp (Bool.eq_false_iff.2 hon),
          enterWaitFeed_eq (s := loaded s sp i rest) hwait, direct]
    have kept := (work_testGrant waits).toKeeps
    rw [testGrant_eq] at kept
    refine ⟨accepted ((congrArg State.testGrant entered).trans (testGrant_eq waits)) kept.sl kept.now, fun hcond => ?_⟩
    exact accepted ((congrArg State.testGrant entered).trans (testGrant_of_condition hcond)) rfl rfl
  all_goals
    have settled {t : State} (h : t.fa = s.fa) : t.testGrant = t := testGrant_of_settled (grantsSettled_of_fa h hg)
  · have claimed := beginLoad_of_claimed (loaded s sp i rest) sp hon (by
      show u.window.state ≠ .opened
      rw [hclosed]
      decide)
    rw [tare, claimTare_of_closed (s := tares) hclosed] at claimed
    exact accepted ((congrArg State.testGrant claimed).trans (settled rfl)) rfl rfl
  · have claimed := beginLoad_of_claimed (loaded s sp i rest) sp hon (by
      show u.window.state ≠ .opened
      rcases hwindow with h | h <;> rw [h] <;> decide)
    rw [tare, claimTare_of_claimed (s := tares) hwindow] at claimed
    exact accepted ((congrArg State.testGrant claimed).trans (settled rfl)) rfl rfl

end Sys2Proof.Proofs

/-! SAVE-CALIBRATION and SET-OUTPUTS. -/

namespace Sys2Proof.Proofs

open Sys2Proof.Machine Sys2Proof.Safety Sys2Proof.Laws

/-! ## The write of the image (R194) -/

section
variable {s : State}

theorem runRequest_save_idle (h : s.cs.store = .idle) :
    runRequest .saveCalibration s =
      ({ s with cs := ⟨{ s.cs.image with check := .failing }, .writing .overwriteCheck s.items (s.now + 100)⟩ },
        okReply []) := by
  simp only [runRequest, saveRequest, h]
  rfl

theorem runRequest_save_busy (h : s.cs.store ≠ .idle) : runRequest .saveCalibration s = (s, ⟨.busy, []⟩) := by
  cases hs : s.cs.store with
  | idle => exact absurd hs h
  | writing part copy limit =>
    simp only [runRequest, saveRequest, hs]
    rfl

/-- An image whose check word is the CRC over its items is valid (R192). -/
theorem valid_of_word (copy : Items) : (⟨copy, .word (crc16 copy.bytes)⟩ : Image).valid = true :=
  decide_eq_true rfl

/-- A check word that fails makes the image not valid (R192). -/
theorem not_valid_of_failing (copy : Items) : (⟨copy, .failing⟩ : Image).valid = false :=
  decide_eq_false nofun

/-- The third part's completion reads the image back and reports what it finds (R194). -/
theorem writeComplete_eq {copy : Items} {limit : Nat} (h : s.cs.store = .writing .writeCheck copy limit) (held : Bool) :
    s.writeComplete held =
      reported { s with cs := ⟨⟨copy, if held then copy.check else .failing⟩, .idle⟩ } .station
        (⟨copy, if held then copy.check else .failing⟩ : Image).endEvent := by
  simp only [State.writeComplete, h, pushEvent_eq_reported]
  rfl

end

/-- Settles O57: each part of the write names the command that ends it. -/
theorem savesRunInThreeParts : Obligations.SavesRunInThreeParts := by
  unfold Obligations.SavesRunInThreeParts
  intro s
  refine ⟨fun hready hidle => ?_, fun hready hbusy => ?_, fun hr hidle => ⟨?_, ?_, fun held => ?_⟩,
    fun part copy limit hr hpart => ?writing⟩
  · exact exec_replied hready rfl (runRequest_save_idle hidle) rfl rfl
  · exact exec_unchanged hready rfl (runRequest_save_busy hbusy)
  · exact (exec_running (f := State.partComplete) hr rfl).trans (by simp only [State.partComplete, hidle])
  · exact (exec_running hr rfl).trans (by simp only [hidle])
  · exact (exec_running (f := fun s => s.writeComplete held) hr rfl).trans (by simp only [State.writeComplete, hidle])
  case writing =>
    have completes : exec .storePartComplete s = .next s.partComplete := exec_running hr rfl
    refine ⟨fun hp => ?_, fun hp => ?_, fun hp => ⟨valid_of_word copy, not_valid_of_failing copy, ?_, ?_⟩, ?_⟩
    · subst hp
      rw [completes]
      simp only [State.partComplete, hpart]
      rfl
    · subst hp
      rw [completes]
      simp only [State.partComplete, hpart]
      rfl
    · subst hp
      refine (exec_running (f := fun s => s.writeComplete true) hr rfl).trans (congrArg Host.Outcome.next ?_)
      exact (writeComplete_eq hpart true).trans (congrArg (reported _ .station) (if_pos (valid_of_word copy)))
    · subst hp
      refine (exec_running (f := fun s => s.writeComplete false) hr rfl).trans (congrArg Host.Outcome.next ?_)
      have lost : (⟨copy, .failing⟩ : Image).endEvent = .storeFailed := by
        rw [Image.endEvent, not_valid_of_failing]
        exact if_neg Bool.false_ne_true
      exact (writeComplete_eq hpart false).trans (congrArg (reported _ .station) lost)
    · refine (exec_running hr rfl).trans ?_
      simp only [hpart, pushEvent_eq_reported]
      rfl

/-! ## SET-OUTPUTS (R58, R191) -/

/-- A manual level set by its bits of the two masks; an output whose source is MANUAL follows (R56, R58). -/
theorem setManual_eq (v : SourceViews) (set? clear? : Bool) (o : ConfigOut) :
    o.setManual v set? clear? =
      { o with
        manual := if set? then true else if clear? then false else o.manual
        terminal :=
          if o.cfg.source = .manual then
            (if set? then true else if clear? then false else o.manual) != o.cfg.invert
          else o.terminal } := by
  have level : (set? || (o.manual && !clear?)) = if set? then true else if clear? then false else o.manual := by
    cases set? <;> cases clear? <;> simp
  simp only [ConfigOut.setManual, level]
  split
  · next hs => simp only [ConfigOut.recompute, SourceViews.holds, hs]
  · rfl

/-- Eight levels weighed as the bits of a byte. -/
theorem bitSet_eight (a b c d e f g h : Bool) :
    bitSet [a, b, c, d, e, f, g, h] =
      a.toNat + 2 * b.toNat + 4 * c.toNat + 8 * d.toNat + 16 * e.toNat + 32 * f.toNat + 64 * g.toNat + 128 * h.toNat := by
  simp only [bitSet, List.foldr]
  omega

/-- A level of the eight outputs as a byte (R191). -/
theorem setByte_outputs (b : Iob) (level : ConfigOut → Bool) :
    setByte (b.outputs.map level) =
      byteOf
        ((level b.beacon.a).toNat + 2 * (level b.beacon.b).toNat + 4 * (level b.beacon.c).toNat +
          8 * (level b.beacon.d).toNat + 16 * (level b.aux.x1).toNat + 32 * (level b.aux.x2).toNat +
          64 * (level b.aux.x3).toNat + 128 * (level b.aux.x4).toNat) :=
  congrArg (BitVec.ofNat 8) (bitSet_eight _ _ _ _ _ _ _ _)

/-- Settles O49. -/
theorem setOutputsSetsManualLevels : Obligations.SetOutputsSetsManualLevels := by
  unfold Obligations.SetOutputsSetsManualLevels
  intro s setMask clearMask hready set1 b bits
  have outputs : s.iob.setOutputs setMask clearMask = b := by
    simp only [Iob.setOutputs, setManual_eq]
    rfl
  refine exec_replied hready rfl (t := { s with iob := b }) ?_ rfl rfl
  show setOutputsRequest setMask clearMask s = _
  simp only [setOutputsRequest, State.updIob, outputs, setByte_outputs]
  rfl

end Sys2Proof.Proofs

/-! Sources of the configurable outputs, CONFIG-LANE and CONFIG-SPOUT. -/

namespace Sys2Proof.Proofs

open Sys2Proof.Machine Sys2Proof.Safety Sys2Proof.Laws

/-! ## The source of a configurable output (R57, R183) -/

/-- A source code names one of the six conditions, or it is stored as MANUAL. -/
theorem source_code_cases (b : Byte) :
    b = 1 ∨ b = 2 ∨ b = 3 ∨ b = 4 ∨ b = 5 ∨ b = 6 ∨ b = 0 ∨ 6 < b.toNat := by
  bv_omega

theorem storeSource_of_gt {b : Byte} (h : 6 < b.toNat) : storeSource b = .manual := by
  unfold storeSource
  split
  · omega
  · omega
  · omega
  · omega
  · omega
  · omega
  · rfl

theorem code_storeSource (b : Byte) : (storeSource b).code = if b.toNat ≤ 6 then b else 0 := by
  rcases source_code_cases b with rfl | rfl | rfl | rfl | rfl | rfl | rfl | h
  case inr.inr.inr.inr.inr.inr.inr => rw [storeSource_of_gt h, if_neg (by omega)]; rfl
  all_goals rfl

theorem storeArg_storeSource (b arg : Byte) :
    storeArg (storeSource b) arg =
      if 1 ≤ b.toNat ∧ b.toNat ≤ 4 then (if arg.toNat ≤ 3 then arg else 3)
      else if b = 5 then (if arg = 1 then 1 else 2)
      else arg := by
  have spout : (if arg.toNat < 4 then arg else 3) = if arg.toNat ≤ 3 then arg else 3 := by simp only [Nat.lt_succ_iff]
  have lane : (if arg.toNat = 1 then (1 : Byte) else 2) = if arg = 1 then 1 else 2 := by
    simp only [show arg.toNat = 1 ↔ arg = 1 by bv_omega]
  rcases source_code_cases b with rfl | rfl | rfl | rfl | rfl | rfl | rfl | h
  · exact spout
  · exact spout
  · exact spout
  · exact spout
  · exact lane
  · rfl
  · rfl
  · have other : b ≠ 5 := fun h5 => absurd h (by simp [h5])
    rw [storeSource_of_gt h, if_neg (by omega), if_neg other]
    rfl

theorem sourceOf_code (k : SourceKind) : sourceOf k.code = k := by
  cases k <;> rfl

theorem boolByte_onOff (b : Byte) : boolByte (onOff b) = if b = 0 then 0 else 1 := by
  by_cases h : b = 0
  · rw [if_pos h, onOff, decide_eq_false (not_not_intro h)]
    rfl
  · rw [if_neg h, onOff, decide_eq_true h]
    rfl

/-- A stored source is echoed as the statements write it. -/
theorem outputFieldOf_storeOutput (f : OutputField) : outputFieldOf (storeOutput f) = storedAs f := by
  simp only [outputFieldOf, storeOutput, storedAs, code_storeSource, storeArg_storeSource, boolByte_onOff]

theorem outputClamped_eq (f : OutputField) : outputClamped f = sourceClamped f := by
  simp only [outputClamped, sourceClamped, outputFieldOf_storeOutput, bne, beq_eq_decide, decide_not]

/-- The configuration stored for a source, read back from what is echoed. -/
theorem storeOutput_eq (f : OutputField) :
    storeOutput f = ⟨sourceOf (storedAs f).source, (storedAs f).arg, decide ((storedAs f).invert = 1)⟩ := by
  have flag : onOff f.invert = decide (boolByte (onOff f.invert) = 1) := by
    cases onOff f.invert <;> rfl
  rw [← outputFieldOf_storeOutput]
  simp only [outputFieldOf, storeOutput, sourceOf_code]
  exact congrArg (OutputCfg.mk _ _) flag

theorem setCfg_storeOutput (b : Iob) (o : ConfigOut) (f : OutputField) :
    o.setCfg b.views (storeOutput f) = resourced b o f := by
  rw [storeOutput_eq]
  rfl

/-! ## CONFIG-LANE (R162) -/

/-- Settles O46. -/
theorem configLaneStoresTheParameters : Obligations.ConfigLaneStoresTheParameters := by
  unfold Obligations.ConfigLaneStoresTheParameters
  intro s l f hready hl u p stored clamped
  have params : storeLaneParams f = p := by
    simp only [storeLaneParams, p, clampNat, Nat.zero_max]
    rfl
  have echo : laneFieldsOf (laneCode l) p = stored := by
    simp only [laneFieldsOf, stored, hl, p]
    rw [← boolByte_onOff]
    rfl
  have step : runRequest (.configLane f) s =
      if p.enable ≠ u.params.enable ∧ u.window.state ≠ .closed then (s, ⟨.busy, []⟩)
      else ({ s with lwu := s.lwu.set l { u with params := p } }, okOrClamped clamped (encodeLaneFields stored)) := by
    show configLaneRequest f s = _
    simp only [configLaneRequest, hl, withLane_laneCode, params, echo]
    rfl
  refine ⟨fun hne hopen => ?_, fun hkept => ?_⟩
  · exact exec_unchanged hready rfl (step.trans (if_pos ⟨hne, hopen⟩))
  · exact exec_replied hready rfl (step.trans (if_neg (by tauto))) rfl rfl

/-! ## CONFIG-SPOUT (R84) -/

/-- A window no longer than W is kept as it is (R21). -/
theorem trim_setCorr_eq (c : Fc) (w lmax : Nat) :
    (c.trim w).setCorr lmax c.corr =
      { c with
        window := keepLast w c.window
        qFilt := if w < c.window.length then roundedMean (keepLast w c.window) else c.qFilt
        corr := max (-(lmax : Int)) (min c.corr lmax) } := by
  by_cases h : w < c.window.length
  · simp only [Fc.trim, if_pos h]
    rfl
  · have whole : keepLast w c.window = c.window := by
      rw [keepLast, Nat.sub_eq_zero_of_le (by omega), List.drop_zero]
    simp only [Fc.trim, if_neg h, whole]
    rfl

theorem atRest_iff {s : State} (sp : Spout) :
    s.atRest sp = true ↔ (s.sc.get sp).state = .idle ∧ s.ot.queues.get sp = [] := by
  simp only [State.atRest, Bool.and_eq_true, decide_eq_true_iff]

/-- Settles O47. -/
theorem configSpoutStoresTheParameters : Obligations.ConfigSpoutStoresTheParameters := by
  unfold Obligations.ConfigSpoutStoresTheParameters
  intro s sp f hready hsp in_ settle p c c' rest idle word long stored clamped
  have params : storeSpoutParams f = p := rfl
  have echo : spoutFieldsOf (spoutCode sp) p (storeOutput f.beacon) = stored := by
    simp only [spoutFieldsOf, stored, hsp, outputFieldOf_storeOutput]
    rfl
  have step : runRequest (.configSpout f) s =
      if s.atRest sp = false then (s, ⟨.busy, []⟩)
      else
        ({ s with
            params := s.params.set sp p
            fc := s.fc.set sp c'
            iob :=
              { s.iob with
                beacon := s.iob.beacon.set sp (resourced s.iob (s.iob.beacon.get sp) f.beacon) } },
          okOrClamped clamped (encodeSpoutFields stored)) := by
    show configSpoutRequest f s = _
    simp only [configSpoutRequest, hsp, withSpout_spoutCode, params, echo, State.updFc, trim_setCorr_eq, State.updIob,
      setCfg_storeOutput]
    rfl
  refine ⟨fun hne => ?_, fun hidle => ?_⟩
  · have moving : s.atRest sp = false := by
      rw [Bool.eq_false_iff]
      exact fun h => hne ((atRest_iff sp).mp h)
    exact exec_unchanged hready rfl (step.trans (if_pos moving))
  · have resting : ¬ s.atRest sp = false := by simp [(atRest_iff sp).mpr hidle]
    exact exec_replied hready rfl (step.trans (if_neg resting)) rfl rfl

end Sys2Proof.Proofs

/-! CONFIG-STATION. -/

namespace Sys2Proof.Proofs

open Sys2Proof.Machine Sys2Proof.Safety Sys2Proof.Laws

/-! ## The report enables (R46) -/

/-- A state with the inputs of another. -/
def withInputs (s t : State) : State :=
  { s with iob := { s.iob with inputs := t.iob.inputs, feedHold := t.iob.feedHold, airOk := t.iob.airOk } }

section
variable {s : State}

theorem withInputs_setInput (t : State) (i : InputId) (v : Input) : withInputs (s.setInput i v) t = withInputs s t := by
  cases i <;> rfl

theorem spoutInputs_get_set_ne (t : SpoutInputs) {k k' : SpoutInput} (h : k' ≠ k) (v : Input) :
    (t.set k v).get k' = t.get k' := by
  cases k <;> cases k' <;> simp_all [SpoutInputs.set, SpoutInputs.get]

theorem input_setInput_of_ne {i j : InputId} (h : j ≠ i) (v : Input) : (s.setInput i v).input j = s.input j := by
  cases i with
  | feedHold =>
    cases j with
    | feedHold => exact absurd rfl h
    | _ => rfl
  | airOk =>
    cases j with
    | airOk => exact absurd rfl h
    | _ => rfl
  | spout sp k =>
    cases j with
    | spout sp' k' =>
      by_cases hsp : sp' = sp
      · subst hsp
        have hk : k' ≠ k := fun hk => h (hk ▸ rfl)
        simp only [State.setInput, State.input, State.updIob, PerSpout.get_set_self]
        exact spoutInputs_get_set_ne _ hk v
      · simp only [State.setInput, State.input, State.updIob, PerSpout.get_set_ne _ _ hsp]
    | _ => rfl

/-- Setting the enables of a list of inputs changes those inputs alone. -/
theorem foldl_setReports (e : BitVec 24) (is : List InputId) (s : State) :
    let t := is.foldl (fun s i => s.setInput i { s.input i with report := e.getLsbD (enableBit i) }) s
    t = withInputs s t ∧
      ∀ i, t.input i = if i ∈ is then { s.input i with report := e.getLsbD (enableBit i) } else s.input i := by
  induction is generalizing s with
  | nil => exact ⟨rfl, fun i => rfl⟩
  | cons j is ih =>
    obtain ⟨rest, inputs⟩ := ih (s.setInput j { s.input j with report := e.getLsbD (enableBit j) })
    refine ⟨rest.trans (withInputs_setInput _ _ _), fun i => (inputs i).trans ?_⟩
    by_cases hi : i = j
    · subst hi
      simp only [input_setInput, List.mem_cons_self, if_true, ite_self]
    · simp only [input_setInput_of_ne hi, List.mem_cons, hi, false_or]

theorem mem_inputId_all (i : InputId) : i ∈ InputId.all := by
  cases i with
  | spout sp k => cases sp <;> cases k <;> decide
  | feedHold => decide
  | airOk => decide

theorem setReports_eq (e : BitVec 24) :
    ∃ t, s.setReports e = withInputs s t ∧
      ∀ i, t.input i = { s.input i with report := e.getLsbD (enableBit i) } :=
  ⟨s.setReports e, (foldl_setReports e InputId.all s).1, fun i =>
    ((foldl_setReports e InputId.all s).2 i).trans (if_pos (mem_inputId_all i))⟩

/-! ## The attention mask (R183, R188) -/

theorem testBit_bitSet (bits : List Bool) (i : Nat) : (bitSet bits).testBit i = bits.getD i false := by
  induction bits generalizing i with
  | nil => simp [bitSet]
  | cons b bits ih =>
    have split : bitSet (b :: bits) = 2 * bitSet bits + b.toNat := Nat.add_comm _ _
    cases i with
    | zero => cases b <;> simp [split, Nat.testBit_zero, Nat.add_mod]
    | succ i =>
      have half : (2 * bitSet bits + b.toNat) / 2 = bitSet bits := by
        have := Bool.toNat_lt b
        omega
      rw [split, Nat.testBit_succ, half, ih, List.getD_cons_succ]

theorem storeMask_bits (m : BitVec 16) : (storeMask m).bits = (List.range 9).map m.getLsbD := rfl

theorem getLsbD_lowNine : ∀ i < 16, (0x01FF : BitVec 16).getLsbD i = decide (i < 9) := by
  decide

/-- The bits that name no category are stored as 0 (R183). -/
theorem ofNat_storeMask (m : BitVec 16) : BitVec.ofNat 16 (bitSet (storeMask m).bits) = m &&& 0x01FF := by
  refine BitVec.eq_of_getLsbD_eq fun i hi => ?_
  rw [BitVec.getLsbD_ofNat, testBit_bitSet, storeMask_bits, BitVec.getLsbD_and, getLsbD_lowNine i hi]
  by_cases h9 : i < 9
  · simp [hi, h9]
  · simp [h9]

/-! ## The stored fields (R139, R183) -/

theorem toNat_byteOf {n : Nat} (h : n < 256) : (byteOf n).toNat = n := by
  rw [byteOf, BitVec.toNat_ofNat, Nat.mod_eq_of_lt h]

theorem busy_iff (f : Fa) : f.busy = true ↔ (∃ sp, f.holders.get sp = true) ∨ f.requests ≠ [] := by
  have holder : f.holderCount ≠ 0 ↔ ∃ sp, f.holders.get sp = true := by
    simp only [holderCount_eq, ne_eq, List.length_eq_zero_iff, List.filter_eq_nil_iff, not_forall, not_not]
    exact ⟨fun ⟨sp, _, h⟩ => ⟨sp, h⟩, fun ⟨sp, h⟩ => ⟨sp, by cases sp <;> decide, h⟩⟩
  simp only [Fa.busy, Bool.or_eq_true, decide_eq_true_iff, holder]

theorem setAux_eq (b : Iob) (f : PerAux OutputField) :
    b.setAux f =
      { b with
        aux :=
          ⟨resourced b b.aux.x1 f.x1, resourced b b.aux.x2 f.x2, resourced b b.aux.x3 f.x3,
            resourced b b.aux.x4 f.x4⟩ } := by
  simp only [Iob.setAux, setCfg_storeOutput]

theorem storeStation_eq (f : StationFields) :
    storeStation f =
      { g := byteOf (max 1 (min f.g.toNat 4)), debounce := byteOf (min f.debounce.toNat 250)
        turnaround := byteOf (max 1 (min f.turnaround.toNat 50)), mask := f.mask &&& 0x01FF
        enables := f.enables &&& 0x3FFFFF
        aux := ⟨storedAs f.aux.x1, storedAs f.aux.x2, storedAs f.aux.x3, storedAs f.aux.x4⟩ } := by
  simp only [storeStation, clampNat, Nat.zero_max, ofNat_storeMask, PerAux.map, outputFieldOf_storeOutput]

end

/-- Settles O45. -/
theorem configStationStoresEveryField : Obligations.ConfigStationStoresEveryField := by
  unfold Obligations.ConfigStationStoresEveryField
  intro s f hready g debounce turnaround stored clamped busy
  have hg : (byteOf g).toNat = g := toNat_byteOf (by omega)
  have hd : (byteOf debounce).toNat = debounce := toNat_byteOf (by omega)
  have ht : (byteOf turnaround).toNat = turnaround := toNat_byteOf (by omega)
  have echo : storeStation f = stored := storeStation_eq f
  have mark : stationClamped f = clamped := by
    simp only [stationClamped, echo, outputClamped_eq, bne, beq_eq_decide, clamped, decide_not]
  let before : State :=
    { s with
      fa := { s.fa with g := g }
      sl := { s.sl with turnaround := turnaround }
      iob :=
        { s.iob with
          debounce := debounce
          holdAck := ({ s.fa with g := g } : Fa).holdAck
          aux :=
            ⟨resourced s.iob s.iob.aux.x1 f.aux.x1, resourced s.iob s.iob.aux.x2 f.aux.x2,
              resourced s.iob s.iob.aux.x3 f.aux.x3, resourced s.iob s.iob.aux.x4 f.aux.x4⟩ } }
  obtain ⟨t, enabled, input⟩ := setReports_eq (s := before) f.enables
  let after : State := (withInputs before t).updRq fun q => { q with mask := storeMask f.mask }
  have step : runRequest (.configStation f) s =
      if g ≠ s.fa.g ∧ s.fa.busy = true then (s, ⟨.busy, []⟩)
      else (after, okOrClamped clamped (encodeStationFields stored)) := by
    show configStationRequest f s = _
    simp only [configStationRequest, echo, mark, setAux_eq]
    simp only [stored, hg, hd, ht]
    exact congrArg (fun x : State => if g ≠ s.fa.g ∧ s.fa.busy = true then (s, ⟨.busy, []⟩)
      else (x.updRq fun q => { q with mask := storeMask f.mask }, okOrClamped clamped (encodeStationFields stored))) enabled
  refine ⟨fun hne hbusy => ?_, fun hfree => ?_⟩
  · exact exec_unchanged hready rfl (step.trans (if_pos ⟨hne, (busy_iff s.fa).mpr hbusy⟩))
  · have free : ¬ (g ≠ s.fa.g ∧ s.fa.busy = true) := by
      rw [busy_iff]
      tauto
    rw [if_neg free] at step
    refine ⟨after.answer 0x02 s.sl.turnaround (okOrClamped clamped (encodeStationFields stored)), ?_, rfl, rfl, rfl, rfl,
      fun sp k => (input (.spout sp k)).trans rfl, input .feedHold, input .airOk, rfl, storeMask_bits f.mask⟩
    rw [exec_of_encodeRequest rfl, request_of_idle hready.1 hready.2, State.take, step]

end Sys2Proof.Proofs

/-! Requests and their bodies. -/

namespace Sys2Proof.Proofs

open Sys2Proof.Machine Sys2Proof.Safety Sys2Proof.Laws

/-! ## Fields of several bytes (section 4.4) -/

theorem bytes_of_word (v : BitVec 16) : v.extractLsb' 8 8 ++ v.extractLsb' 0 8 = v :=
  (BitVec.extractLsb'_append_extractLsb'_eq_extractLsb' (len₁ := 8) (by decide)).trans BitVec.extractLsb'_eq_self

theorem bytes_of_triple (v : BitVec 24) : (v.extractLsb' 16 8 ++ v.extractLsb' 8 8) ++ v.extractLsb' 0 8 = v := by
  rw [BitVec.extractLsb'_append_extractLsb'_eq_extractLsb' (len₁ := 8) (by decide),
    BitVec.extractLsb'_append_extractLsb'_eq_extractLsb' (len₁ := 8) (by decide)]
  exact BitVec.extractLsb'_eq_self

theorem bytes_of_long (v : BitVec 32) :
    (v.extractLsb' 24 8 ++ v.extractLsb' 16 8) ++ (v.extractLsb' 8 8 ++ v.extractLsb' 0 8) = v := by
  rw [BitVec.extractLsb'_append_extractLsb'_eq_extractLsb' (len₁ := 8) (by decide),
    BitVec.extractLsb'_append_extractLsb'_eq_extractLsb' (len₁ := 8) (by decide),
    BitVec.extractLsb'_append_extractLsb'_eq_extractLsb' (len₁ := 8 + 8) (by decide)]
  exact BitVec.extractLsb'_eq_self

section
variable (i : Nat) (b : List Byte)

theorem wordBytes_wordAt : wordBytes (wordAt i b) = [byteAt i b, byteAt (i + 1) b] := by
  simp only [wordBytes, wordAt, BitVec.extractLsb'_append_eq_left, BitVec.extractLsb'_append_eq_right]

theorem tripleBytes_tripleAt : tripleBytes (tripleAt i b) = [byteAt i b, byteAt (i + 1) b, byteAt (i + 2) b] := by
  have high : (tripleAt i b).extractLsb' 16 8 = byteAt i b :=
    (BitVec.extractLsb'_append_eq_of_le (by decide)).trans BitVec.extractLsb'_append_eq_left
  have middle : (tripleAt i b).extractLsb' 8 8 = byteAt (i + 1) b :=
    (BitVec.extractLsb'_append_eq_of_le (by decide)).trans BitVec.extractLsb'_append_eq_right
  have low : (tripleAt i b).extractLsb' 0 8 = byteAt (i + 2) b := BitVec.extractLsb'_append_eq_right
  rw [tripleBytes, high, middle, low]

theorem longBytes_longAt :
    longBytes (longAt i b) = [byteAt i b, byteAt (i + 1) b, byteAt (i + 2) b, byteAt (i + 3) b] := by
  have high : (longAt i b).extractLsb' 24 8 = byteAt i b :=
    (BitVec.extractLsb'_append_eq_of_le (by decide)).trans BitVec.extractLsb'_append_eq_left
  have upper : (longAt i b).extractLsb' 16 8 = byteAt (i + 1) b :=
    (BitVec.extractLsb'_append_eq_of_le (by decide)).trans BitVec.extractLsb'_append_eq_right
  have lower : (longAt i b).extractLsb' 8 8 = byteAt (i + 2) b :=
    (BitVec.extractLsb'_append_eq_of_add_le (by decide)).trans BitVec.extractLsb'_append_eq_left
  have low : (longAt i b).extractLsb' 0 8 = byteAt (i + 3) b :=
    (BitVec.extractLsb'_append_eq_of_add_le (by decide)).trans BitVec.extractLsb'_append_eq_right
  rw [longBytes, high, upper, lower, low]

theorem encode_decodeOutputField :
    encodeOutputField (decodeOutputField i b) = [byteAt i b, byteAt (i + 1) b, byteAt (i + 2) b] := rfl

theorem encode_decodeOptField :
    encodeOptField (decodeOptField i b) =
      [byteAt i b, byteAt (i + 1) b, byteAt (i + 2) b, byteAt (i + 3) b, byteAt (i + 4) b] :=
  congrArg (byteAt i b :: ·) (longBytes_longAt (i + 1) b)

end

/-- A run of bytes of a body, offset by offset. -/
theorem take_drop_eq_bytes {b : List Byte} {i n : Nat} (h : i + n ≤ b.length) :
    (b.drop i).take n = (List.range n).map fun k => byteAt (i + k) b := by
  refine List.ext_getElem (by simp; omega) fun k hk _ => ?_
  simp only [List.length_take, List.length_drop] at hk
  rw [List.getElem_take, List.getElem_drop, List.getElem_map, List.getElem_range, byteAt,
    List.getD_eq_getElem b 0 (by omega)]

/-- A body is its bytes, offset by offset. -/
theorem eq_bytes {b : List Byte} {n : Nat} (h : b.length = n) : (List.range n).map (fun k => byteAt k b) = b := by
  have whole := take_drop_eq_bytes (b := b) (i := 0) (n := n) (by omega)
  rw [List.drop_zero, List.take_of_length_le (by omega)] at whole
  simpa only [Nat.zero_add] using whole.symm

/-- The eight characters of a well-formed tag (R60). -/
theorem tag_chars {tag : List Byte} (h : tagWf tag = true) :
    ∃ c0 c1 c2 c3 c4 c5 c6 c7, tag = [c0, c1, c2, c3, c4, c5, c6, c7] :=
  ⟨_, _, _, _, _, _, _, _, (eq_bytes (n := 8) (by simpa [tagWf] using h)).symm⟩

/-! ## The bodies of several fields (R191) -/

theorem decode_encodeStation (f : StationFields) : decodeStationFields (encodeStationFields f) = f := by
  change StationFields.mk _ _ _ (f.mask.extractLsb' 8 8 ++ f.mask.extractLsb' 0 8)
    ((f.enables.extractLsb' 16 8 ++ f.enables.extractLsb' 8 8) ++ f.enables.extractLsb' 0 8) _ = f
  rw [bytes_of_word, bytes_of_triple]
  rfl

theorem encode_decodeStation {b : List Byte} (h : b.length = 20) : encodeStationFields (decodeStationFields b) = b := by
  simp only [encodeStationFields, decodeStationFields, wordBytes_wordAt, tripleBytes_tripleAt, encode_decodeOutputField]
  exact eq_bytes h

theorem decode_encodeLane (f : LaneFields) : decodeLaneFields (encodeLaneFields f) = f :=
  congrArg (LaneFields.mk f.lane f.enable f.nStable f.tareTimeout f.grossTimeout f.acceptBand f.alpha)
    (bytes_of_long f.nMin)

theorem encode_decodeLane {b : List Byte} (h : b.length = 11) : encodeLaneFields (decodeLaneFields b) = b := by
  simp only [encodeLaneFields, decodeLaneFields, longBytes_longAt]
  exact eq_bytes h

theorem decode_encodeSpout (f : SpoutFields) : decodeSpoutFields (encodeSpoutFields f) = f := by
  simp only [encodeSpoutFields, wordBytes, longBytes, encodeOutputField, List.cons_append, List.nil_append,
    decodeSpoutFields, wordAt, longAt, byteAt, decodeOutputField, List.getD_cons_succ, List.getD_cons_zero,
    bytes_of_word, bytes_of_long]

theorem encode_decodeSpout {b : List Byte} (h : b.length = 48) : encodeSpoutFields (decodeSpoutFields b) = b := by
  simp only [encodeSpoutFields, decodeSpoutFields, wordBytes_wordAt, longBytes_longAt, encode_decodeOutputField,
    List.cons_append, List.nil_append]
  exact eq_bytes h

theorem decode_encodeOrder {f : OrderFields} (h : tagWf f.tag = true) :
    decodeOrderFields (encodeOrderFields f) = f ∧ (encodeOrderFields f).length = 30 := by
  obtain ⟨spout, tag, compartment, product, target, ⟨op, ov⟩, ⟨up, uv⟩, dp, dv⟩ := f
  obtain ⟨c0, c1, c2, c3, c4, c5, c6, c7, rfl⟩ := tag_chars h
  refine ⟨?_, rfl⟩
  simp only [encodeOrderFields, longBytes, encodeOptField, List.cons_append, List.nil_append, decodeOrderFields,
    decodeOptField, wordAt, longAt, byteAt, List.getD_cons_succ, List.getD_cons_zero, bytes_of_long]
  rfl

theorem encode_decodeOrder {b : List Byte} (h : b.length = 30) :
    encodeOrderFields (decodeOrderFields b) = b ∧ tagWf (decodeOrderFields b).tag = true := by
  have tag := take_drop_eq_bytes (b := b) (i := 1) (n := 8) (by omega)
  refine ⟨?_, by simp [decodeOrderFields, tagWf, h]⟩
  simp only [encodeOrderFields, decodeOrderFields, longBytes_longAt, encode_decodeOptField, tag]
  exact eq_bytes h

/-- The SET-CALIBRATION body: spout, S, z and L (R191). -/
theorem encode_decodeCalibration {b : List Byte} (h : b.length = 11) :
    byteAt 0 b :: (longBytes (longAt 1 b) ++ wordBytes (wordAt 5 b) ++ longBytes (longAt 7 b)) = b := by
  simp only [longBytes_longAt, wordBytes_wordAt]
  exact eq_bytes h

/-! ## Kinds and bodies (R179, R191) -/

theorem decodeRequest_configSpout {b : List Byte} (h : b.length = 48) :
    decodeRequest 0x04 b = some (.configSpout (decodeSpoutFields b)) :=
  if_pos (congrArg some h.symm)

theorem decodeRequest_loadOrder {b : List Byte} (h : b.length = 30) :
    decodeRequest 0x08 b = some (.loadOrder (decodeOrderFields b)) :=
  if_pos (congrArg some h.symm)

theorem length_encodeSpoutFields (f : SpoutFields) : (encodeSpoutFields f).length = 48 := by
  simp only [encodeSpoutFields, wordBytes, longBytes, encodeOutputField, List.length_append, List.length_cons,
    List.length_nil]

/-- What a well-formed request encodes to decodes to it. -/
theorem decodeRequest_of_encodeRequest {i : Instr} {kind : Byte} {body : List Byte} (hwf : i.wf = true)
    (h : encodeRequest i = some (kind, body)) : decodeRequest kind body = some i := by
  cases i with
  | readStation | readSpout | zero | start | stop | readOrder | releaseOrder | readEvents | setOutputs | clearLockout
  | readLane | saveCalibration | restart => cases h; rfl
  | configStation f => cases h; exact congrArg (some ∘ Instr.configStation) (decode_encodeStation f)
  | configLane f => cases h; exact congrArg (some ∘ Instr.configLane) (decode_encodeLane f)
  | configSpout f =>
    cases h
    rw [decodeRequest_configSpout (length_encodeSpoutFields f), decode_encodeSpout]
  | setCalibration sp span zero corr =>
    cases h
    have fields := congr (congr (congrArg (Instr.setCalibration sp) (bytes_of_long span)) (bytes_of_word zero))
      (bytes_of_long corr)
    exact congrArg some fields
  | loadOrder f =>
    cases h
    obtain ⟨same, length⟩ := decode_encodeOrder hwf
    rw [decodeRequest_loadOrder length, same]
  | withdrawVehicle tag =>
    cases h
    obtain ⟨c0, c1, c2, c3, c4, c5, c6, c7, rfl⟩ := tag_chars hwf
    rfl
  | _ => exact nomatch h

/-- What decodes to a request is its encoding, and the request is well formed. -/
theorem encodeRequest_of_decodeRequest {kind : Byte} {body : List Byte} {i : Instr} (h : decodeRequest kind body = some i) :
    encodeRequest i = some (kind, body) ∧ i.wf = true := by
  have size := bodySize_of_decodeRequest h
  have spelled : BitVec.ofNat 8 kind.toNat = kind := BitVec.ofNat_toNat ..
  rw [decodeRequest, if_pos size] at h
  split at h
  case h_20 => cases h
  all_goals
    rename_i code
    rw [code] at spelled
    subst spelled
    cases h
    have length := (Option.some.inj size).symm
  case h_1 | h_18 | h_19 => rw [List.length_eq_zero_iff.mp length]; exact ⟨rfl, rfl⟩
  case h_2 => exact ⟨congrArg (fun b => some (_, b)) (encode_decodeStation length), rfl⟩
  case h_3 => exact ⟨congrArg (fun b => some (_, b)) (encode_decodeLane length), rfl⟩
  case h_4 => exact ⟨congrArg (fun b => some (_, b)) (encode_decodeSpout length), rfl⟩
  case h_6 =>
    exact ⟨congrArg (fun b => some (_, b)) (encode_decodeCalibration length), rfl⟩
  case h_8 =>
    obtain ⟨same, tag⟩ := encode_decodeOrder length
    exact ⟨congrArg (fun b => some (_, b)) same, tag⟩
  case h_11 => exact ⟨rfl, beq_iff_eq.mpr length⟩
  all_goals exact ⟨congrArg (fun b => some (_, b)) (eq_bytes length), rfl⟩

/-- Settles O5. -/
theorem decodeAndEncodeAgree : Obligations.DecodeAndEncodeAgree := by
  unfold Obligations.DecodeAndEncodeAgree
  intro i kind body
  refine ⟨fun hwf h => ?_, encodeRequest_of_decodeRequest⟩
  have decoded := decodeRequest_of_encodeRequest hwf h
  exact ⟨decoded, bodySize_of_decodeRequest decoded⟩

end Sys2Proof.Proofs

/-! What a warm restart leaves. -/

namespace Sys2Proof.Proofs

open Sys2Proof.Machine Sys2Proof.Safety Sys2Proof.Laws

/-! ## What the parts of a warm restart leave unchanged -/

/-- What stays while a warm restart ends loads and windows: the clock, the lines, the parameters, the image, the link, the
queues, the inputs; the report queue is appended to. -/
structure Lasts (s t : State) : Prop where
  now : t.now = s.now := by rfl
  base : t.msBase = s.msBase := by rfl
  rst : t.rst = s.rst := by rfl
  slr : t.slr = s.slr := by rfl
  params : t.params = s.params := by rfl
  cs : t.cs = s.cs := by rfl
  sl : t.sl = s.sl := by rfl
  mask : t.rq.mask = s.rq.mask := by rfl
  queues : t.ot.queues = s.ot.queues := by rfl
  inputs : t.iob.inputs = s.iob.inputs := by rfl
  feedHold : t.iob.feedHold = s.iob.feedHold := by rfl
  airOk : t.iob.airOk = s.iob.airOk := by rfl
  events : s.rq.events <+: t.rq.events := by exact List.prefix_refl _
  full : 32 ≤ s.rq.events.length → t.rq.events = s.rq.events := by exact fun _ => rfl

/-- The gates and HOLD_ACK stay too. -/
structure LastsGates (s t : State) : Prop extends Lasts s t where
  gates : t.iob.gates = s.iob.gates := by rfl
  holdAck : t.iob.holdAck = s.iob.holdAck := by rfl

theorem Lasts.refl (s : State) : Lasts s s := {}

theorem Lasts.trans {s t u : State} (h : Lasts s t) (k : Lasts t u) : Lasts s u where
  now := k.now.trans h.now
  base := k.base.trans h.base
  rst := k.rst.trans h.rst
  slr := k.slr.trans h.slr
  params := k.params.trans h.params
  cs := k.cs.trans h.cs
  sl := k.sl.trans h.sl
  mask := k.mask.trans h.mask
  queues := k.queues.trans h.queues
  inputs := k.inputs.trans h.inputs
  feedHold := k.feedHold.trans h.feedHold
  airOk := k.airOk.trans h.airOk
  events := h.events.trans k.events
  full hfull := (k.full (h.full hfull ▸ hfull)).trans (h.full hfull)

theorem LastsGates.refl (s : State) : LastsGates s s := {}

theorem LastsGates.trans {s t u : State} (h : LastsGates s t) (k : LastsGates t u) : LastsGates s u :=
  { h.toLasts.trans k.toLasts with gates := k.gates.trans h.gates, holdAck := k.holdAck.trans h.holdAck }

theorem Lasts.input {s t : State} (h : Lasts s t) (i : InputId) : t.input i = s.input i := by
  cases i with
  | spout sp k => exact congrArg (fun b : PerSpout SpoutInputs => (b.get sp).get k) h.inputs
  | feedHold => exact h.feedHold
  | airOk => exact h.airOk

theorem Lasts.msTime {s t : State} (h : Lasts s t) : t.msTime = s.msTime := by
  rw [State.msTime, State.msTime, h.now, h.base]

section
variable (s : State)

/-- An event is appended while the queue has room (R188). -/
theorem lasts_pushEvent (src : EventSource) (body : EventBody) : LastsGates s (s.pushEvent src body) := by
  rw [pushEvent_eq_reported]
  by_cases h : s.rq.events.length < 32
  · have room : (reported s src body).rq = { s.rq with events := s.rq.events ++ [⟨src, s.msTime, body⟩] } := if_pos h
    exact
      { mask := by rw [room]
        events := by rw [room]; exact List.prefix_append _ _
        full := fun hfull => absurd hfull (by omega) }
  · have lost : (reported s src body).rq = { s.rq with lost := min 255 (s.rq.lost + 1) } := if_neg h
    exact
      { mask := by rw [lost]
        events := by rw [lost]
        full := fun _ => by rw [lost] }

theorem lasts_endOrder (sp : Spout) (n : EndNotice) : LastsGates s (s.endOrder sp n) := by
  cases h : (s.sc.get sp).active with
  | none => rw [endOrder_of_none s sp h]; exact .refl s
  | some i =>
    rw [endOrder_of_some s sp h]
    refine LastsGates.trans (t := ((s.updSlot i fun r => r.ended n s.msTime).updOt fun t =>
      { t with lastEnded := t.lastEnded.set sp (some i) }).notice fun v => { v with result := v.result.set sp true }) {} ?_
    exact (lasts_pushEvent _ _ _).trans {}

theorem lasts_restartSpout (sp : Spout) : LastsGates s (s.restartSpout sp) := by
  by_cases h : (s.sc.get sp).state.isActive = true
  · rw [restartSpout_of_active s sp h, setSpoutState_eq]
    refine LastsGates.trans (t := dropped s sp) {} ?_
    exact (lasts_endOrder _ _ _).trans {}
  · rw [restartSpout_of_idle s sp h]
    exact .refl s

theorem lasts_loadsEnded : LastsGates s (loadsEnded s) :=
  (((lasts_restartSpout s .a).trans (lasts_restartSpout _ .b)).trans (lasts_restartSpout _ .c)).trans
    (lasts_restartSpout _ .d)

theorem lasts_abandonWindow (l : Lane) : LastsGates s (s.abandonWindow l) := by
  unfold State.abandonWindow
  split
  · exact .refl s
  · refine LastsGates.trans (t := (s.updWindow l fun w => { w with timer := none, claims := ⟨false, false⟩ }).updLwu l
      fun u => { u with lastResult := some (u.window.result .abandoned none) }) {} ?_
    exact (lasts_pushEvent _ _ _).trans {}

theorem lasts_windowsAbandoned : LastsGates s (windowsAbandoned s) :=
  (lasts_abandonWindow s .l1).trans (lasts_abandonWindow _ .l2)

theorem lasts_outputsOff (sp : Spout) : Lasts s (s.outputsOff sp) := by
  rw [State.outputsOff, commandOutputs_eq]
  exact {}

end

/-! ## The loads that end (R80, R106) -/

/-- A Flow Computer after its spout's load has ended (R29, R33). -/
def restartedFc (c : Sc) (f : Fc) (expiry : Nat) : Fc :=
  if c.state.isActive then tracked { f with active := none, idleView := true } expiry else f

/-- A record after the load it is active for has ended (R71, R106). -/
def restartedSlot (s : State) (sp : Spout) (r : SlotRec) : SlotRec :=
  if r.state = .active ∧ r.spout = some sp then
    r.ended (.abort ((s.sc.get sp).reasons.add .restart)) s.msTime
  else r

theorem restartedSlot_of_ne {s : State} {sp : Spout} {r : SlotRec} (h : ¬ (r.state = .active ∧ r.spout = some sp)) :
    restartedSlot s sp r = r := if_neg h

section
variable {s : State} (sp : Spout)

/-- An active spout holds the slot that is active for it (R62). -/
theorem slotHeld_of_active (ho : OrdersPlaced s) (h : (s.sc.get sp).state.isActive = true) :
    ∃ i, (s.sc.get sp).active = some i ∧
      ∀ j, j = i ↔ (s.ot.slot j).state = .active ∧ (s.ot.slot j).spout = some sp := by
  obtain ⟨_, _, _, active, held, _⟩ := ho.1 sp
  obtain ⟨i, hi⟩ := Option.isSome_iff_exists.1 (held.trans h)
  exact ⟨i, hi, fun j => by rw [← active j, hi, Option.some.injEq, eq_comm]⟩

/-- An IDLE spout has no active slot. -/
theorem no_slot_of_idle (ho : OrdersPlaced s) (h : ¬ (s.sc.get sp).state.isActive = true) (j : Fin 16) :
    ¬ ((s.ot.slot j).state = .active ∧ (s.ot.slot j).spout = some sp) := by
  obtain ⟨_, _, _, active, held, _⟩ := ho.1 sp
  rw [← active j]
  intro hj
  rw [hj] at held
  exact h held.symm

/-- The Flow Computers and the order table after one load has ended. -/
theorem restartSpout_ended (ho : OrdersPlaced s) (h : (s.sc.get sp).state.isActive = true) :
    ∃ i, (s.sc.get sp).active = some i ∧
      (∀ j, j = i ↔ (s.ot.slot j).state = .active ∧ (s.ot.slot j).spout = some sp) ∧
      (s.restartSpout sp).fc =
        s.fc.set sp
          (tracked { s.fc.get sp with active := none, idleView := true } (s.now + (s.params.get sp).zeroTrack)) ∧
      (s.restartSpout sp).ot =
        { s.ot.setSlot i ((s.ot.slot i).ended (.abort ((s.sc.get sp).reasons.add .restart)) s.msTime) with
          lastEnded := s.ot.lastEnded.set sp (some i) } := by
  obtain ⟨i, hi, only⟩ := slotHeld_of_active sp ho h
  have hi' : ((dropped s sp).sc.get sp).active = some i := by simpa [dropped] using hi
  refine ⟨i, hi, only, ?_⟩
  rw [restartSpout_of_active s sp h, endOrder_of_some _ sp hi', setSpoutState_eq]
  refine ⟨?_, ?_⟩
  · simp [enters, dropped]
  · simp only [enters, dropped, State.updSc_sc, PerSpout.get_set_self]
    rfl

theorem restartSpout_fc (ho : OrdersPlaced s) (q : Spout) :
    (s.restartSpout sp).fc.get q =
      if q = sp then restartedFc (s.sc.get q) (s.fc.get q) (s.now + (s.params.get q).zeroTrack) else s.fc.get q := by
  by_cases h : (s.sc.get sp).state.isActive = true
  · obtain ⟨i, _, _, fc, _⟩ := restartSpout_ended sp ho h
    rw [fc]
    by_cases hq : q = sp
    · subst hq
      simp [restartedFc, h]
    · simp [PerSpout.get_set, hq]
  · rw [restartSpout_of_idle s sp h]
    split
    · next hq => simp [hq, restartedFc, h]
    · rfl

theorem restartSpout_lastEnded (ho : OrdersPlaced s) (q : Spout) :
    (s.restartSpout sp).ot.lastEnded.get q =
      if q = sp ∧ (s.sc.get q).state.isActive = true then (s.sc.get q).active else s.ot.lastEnded.get q := by
  by_cases h : (s.sc.get sp).state.isActive = true
  · obtain ⟨i, hi, _, _, ot⟩ := restartSpout_ended sp ho h
    rw [ot]
    by_cases hq : q = sp
    · subst hq
      simp [h, hi]
    · simp [PerSpout.get_set, hq]
  · rw [restartSpout_of_idle s sp h, if_neg]
    rintro ⟨rfl, hact⟩
    exact h hact

theorem restartSpout_slot (ho : OrdersPlaced s) (j : Fin 16) :
    (s.restartSpout sp).ot.slot j = restartedSlot s sp (s.ot.slot j) := by
  by_cases h : (s.sc.get sp).state.isActive = true
  · obtain ⟨i, _, only, _, ot⟩ := restartSpout_ended sp ho h
    rw [ot]
    refine (slot_setSlot s.ot i j _).trans ?_
    by_cases hj : j = i
    · rw [if_pos hj, restartedSlot, if_pos ((only j).mp hj), hj]
    · rw [if_neg hj, restartedSlot_of_ne fun ha => hj ((only j).mpr ha)]
  · rw [restartSpout_of_idle s sp h, restartedSlot_of_ne (no_slot_of_idle sp ho h j)]

end

section
variable {s : State} (ho : OrdersPlaced s)
include ho

/-- The orders are placed before each of the four restarts. -/
theorem ordersPlaced_between :
    OrdersPlaced (s.restartSpout .a) ∧ OrdersPlaced ((s.restartSpout .a).restartSpout .b) ∧
      OrdersPlaced (((s.restartSpout .a).restartSpout .b).restartSpout .c) :=
  have a := ordersPlaced_restartSpout s .a ho
  have b := ordersPlaced_restartSpout _ .b a
  ⟨a, b, ordersPlaced_restartSpout _ .c b⟩

theorem loadsEnded_fc (q : Spout) :
    (loadsEnded s).fc.get q = restartedFc (s.sc.get q) (s.fc.get q) (s.now + (s.params.get q).zeroTrack) := by
  have now (t : State) (sp : Spout) := (lasts_restartSpout t sp).now
  have params (t : State) (sp : Spout) := (lasts_restartSpout t sp).params
  obtain ⟨a, b, c⟩ := ordersPlaced_between ho
  simp only [loadsEnded, Spout.all, List.foldl_cons, List.foldl_nil]
  simp only [restartSpout_fc _ ho, restartSpout_fc _ a, restartSpout_fc _ b, restartSpout_fc _ c, restartSpout_sc, now,
    params]
  cases q <;> simp

theorem loadsEnded_lastEnded (q : Spout) :
    (loadsEnded s).ot.lastEnded.get q =
      if (s.sc.get q).state.isActive = true then (s.sc.get q).active else s.ot.lastEnded.get q := by
  obtain ⟨a, b, c⟩ := ordersPlaced_between ho
  simp only [loadsEnded, Spout.all, List.foldl_cons, List.foldl_nil]
  simp only [restartSpout_lastEnded _ ho, restartSpout_lastEnded _ a, restartSpout_lastEnded _ b,
    restartSpout_lastEnded _ c, restartSpout_sc]
  cases q <;> simp

theorem loadsEnded_slot_eq (i : Fin 16) :
    (loadsEnded s).ot.slot i =
      restartedSlot (((s.restartSpout .a).restartSpout .b).restartSpout .c) .d
        (restartedSlot ((s.restartSpout .a).restartSpout .b) .c
          (restartedSlot (s.restartSpout .a) .b (restartedSlot s .a (s.ot.slot i)))) := by
  obtain ⟨a, b, c⟩ := ordersPlaced_between ho
  simp only [loadsEnded, Spout.all, List.foldl_cons, List.foldl_nil]
  rw [restartSpout_slot _ c, restartSpout_slot _ b, restartSpout_slot _ a, restartSpout_slot _ ho]

/-- A slot that is not active stays (R80). -/
theorem loadsEnded_slot_of_ne {i : Fin 16} (h : (s.ot.slot i).state ≠ .active) :
    (loadsEnded s).ot.slot i = s.ot.slot i := by
  simp only [loadsEnded_slot_eq ho, restartedSlot, h, false_and, if_false]

theorem loadsEnded_slot {i : Fin 16} {sp : Spout} (h : (s.ot.slot i).state = .active)
    (hsp : (s.ot.slot i).spout = some sp) :
    (loadsEnded s).ot.slot i =
      { s.ot.slot i with
        state := .aborted
        reasons := some { (s.sc.get sp).reasons with restart := true }
        endTime := some s.msTime } := by
  have msTime (t : State) (sp : Spout) := (lasts_restartSpout t sp).msTime
  rw [loadsEnded_slot_eq ho]
  simp only [restartedSlot, restartSpout_sc, msTime]
  cases sp <;> simp [h, hsp, SlotRec.ended, ReasonSet.add]

end

/-! ## The windows that end (R174) -/

section
variable (s : State)

/-- A lane after its window has been abandoned. -/
def abandonedLane (u : Lwu) : Lwu :=
  if u.window.state = .closed then u
  else
    { u with
      window := { u.window with state := .closed, timer := none, claims := ⟨false, false⟩ }
      lastResult :=
        some
          { number := u.window.number, tare := u.window.tare, gross := u.window.gross, nm := metered u.window
            nb := netMass u.window, contrib := u.window.contrib, bridgeLost := u.window.bridgeLost
            outcome := .abandoned, corrected := none, newSpan := none } }

theorem abandonWindow_lwu (l : Lane) : (s.abandonWindow l).lwu = s.lwu.set l (abandonedLane (s.lwu.get l)) := by
  unfold State.abandonWindow abandonedLane
  split
  · exact (PerLane.set_get _ _).symm
  · simp [State.moveWindow, State.reportResult, Window.result, nb_eq_netMass]
    rfl

theorem windowsAbandoned_lwu (l : Lane) : (windowsAbandoned s).lwu.get l = abandonedLane (s.lwu.get l) := by
  simp only [windowsAbandoned, Lane.all, List.foldl_cons, List.foldl_nil, abandonWindow_lwu]
  cases l <;> rfl

end

/-! ## The outputs that go off (R49, R51) -/

section
variable (s : State)

theorem gateAfter_congr {s t : State} {sp : Spout} {g : Gate} (hg : t.gate sp g = s.gate sp g)
    (hnow : t.now = s.now) (hparams : t.params = s.params)
    (hlevel : t.level sp (gateSwitch g) = s.level sp (gateSwitch g)) :
    gateAfter t sp g false = gateAfter s sp g false := by
  simp only [gateAfter, hg, hlevel, hnow, hparams]

theorem Lasts.gateAfter_eq {s t : State} {sp : Spout} {g : Gate} (h : Lasts s t) (hg : t.gate sp g = s.gate sp g) :
    gateAfter t sp g false = gateAfter s sp g false :=
  gateAfter_congr hg h.now h.params (congrArg Input.filtered (h.input _))

theorem outputsOff_gate (sp q : Spout) (g : Gate) :
    (s.outputsOff sp).gate q g = if q = sp then gateAfter s q g false else s.gate q g := by
  rw [State.outputsOff, commandOutputs_eq]
  by_cases hq : q = sp
  · subst hq
    cases g <;> simp [State.gate, PerGate.get]
  · simp [State.gate, PerSpout.get_set, hq]

/-- All outputs off, spout by spout (R49). -/
def outputsDown (s : State) : State := Spout.all.foldl (fun s sp => s.outputsOff sp) s

theorem lasts_outputsDown : Lasts s (outputsDown s) :=
  (((lasts_outputsOff s .a).trans (lasts_outputsOff _ .b)).trans (lasts_outputsOff _ .c)).trans (lasts_outputsOff _ .d)

theorem outputsDown_rest :
    (outputsDown s).sc = s.sc ∧ (outputsDown s).fc = s.fc ∧ (outputsDown s).ot = s.ot ∧ (outputsDown s).lwu = s.lwu ∧
      (outputsDown s).fa = s.fa := by
  simp only [outputsDown, Spout.all, List.foldl_cons, List.foldl_nil, State.outputsOff, commandOutputs_eq, and_self]

theorem outputsDown_off :
    (outputsDown s).iob.coarseOut = .fill false ∧ (outputsDown s).iob.fineOut = .fill false ∧
      (outputsDown s).iob.aeration = .fill false := by
  simp only [outputsDown, Spout.all, List.foldl_cons, List.foldl_nil, State.outputsOff, commandOutputs_eq]
  exact ⟨rfl, rfl, rfl⟩

theorem outputsDown_gate (q : Spout) (g : Gate) : (outputsDown s).gate q g = gateAfter s q g false := by
  have a := lasts_outputsOff s .a
  have b := a.trans (lasts_outputsOff _ .b)
  have c := b.trans (lasts_outputsOff _ .c)
  simp only [outputsDown, Spout.all, List.foldl_cons, List.foldl_nil, outputsOff_gate]
  cases q with
  | a => simp
  | b => simp [a.gateAfter_eq (outputsOff_gate s .a .b g)]
  | c => simp [b.gateAfter_eq (sp := .c) (g := g) (by simp [outputsOff_gate])]
  | d => simp [c.gateAfter_eq (sp := .d) (g := g) (by simp [outputsOff_gate])]

end

/-! ## The warm restart (R196) -/

/-- The clock and the link begun anew, with RESTARTED queued (R185, R190). -/
def restartTold (s : State) (cause : ResetCause) : State :=
  (({ s with msBase := s.now } : State).updSl fun l => l.restarted s.rst.strapAddress s.rst.strapRate).pushEvent
    .station (.restarted true cause)

/-- The arbiter without holders and requests (R153). -/
def arbiterEmptied (s : State) : State := s.updFa fun f => { f with holders := .fill false, requests := [] }

/-- The restart before its loads end. -/
def restartBegun (s : State) (cause : ResetCause) : State := arbiterEmptied (outputsDown (restartTold s cause))

section
variable (s : State) (cause : ResetCause)

theorem warmRestart_eq_ended : s.warmRestart cause = windowsAbandoned (loadsEnded (restartBegun s cause)) := rfl

theorem lasts_arbiterEmptied : Lasts s (arbiterEmptied s) := {}

theorem arbiterEmptied_rest :
    (arbiterEmptied s).sc = s.sc ∧ (arbiterEmptied s).fc = s.fc ∧ (arbiterEmptied s).ot = s.ot ∧
      (arbiterEmptied s).lwu = s.lwu ∧
        (arbiterEmptied s).fa = { s.fa with holders := .fill false, requests := [] } := ⟨rfl, rfl, rfl, rfl, rfl⟩

/-- With no holder left, HOLD_ACK follows FEED_HOLD (R150). -/
theorem arbiterEmptied_holdAck : (arbiterEmptied s).iob.holdAck = true ↔ s.fa.feedHoldView = .active := by
  have ack : (arbiterEmptied s).iob.holdAck = (decide (s.fa.feedHoldView = .active) && true) := rfl
  rw [ack, Bool.and_true, decide_eq_true_iff]

theorem lasts_restartBegun : Lasts (restartTold s cause) (restartBegun s cause) :=
  (lasts_outputsDown _).trans (lasts_arbiterEmptied _)

theorem restartTold_rest :
    (restartTold s cause).sc = s.sc ∧ (restartTold s cause).fc = s.fc ∧ (restartTold s cause).ot = s.ot ∧
      (restartTold s cause).lwu = s.lwu ∧ (restartTold s cause).fa = s.fa := ⟨rfl, rfl, rfl, rfl, rfl⟩

theorem restartBegun_rest :
    (restartBegun s cause).sc = s.sc ∧ (restartBegun s cause).fc = s.fc ∧ (restartBegun s cause).ot = s.ot ∧
      (restartBegun s cause).lwu = s.lwu ∧
        (restartBegun s cause).fa = { s.fa with holders := .fill false, requests := [] } := by
  obtain ⟨sc, fc, ot, lwu, fa⟩ := outputsDown_rest (restartTold s cause)
  obtain ⟨sc', fc', ot', lwu', fa'⟩ := restartTold_rest s cause
  have emptied := arbiterEmptied_rest (outputsDown (restartTold s cause))
  rwa [sc, fc, ot, lwu, fa, sc', fc', ot', lwu', fa'] at emptied

theorem ordersPlaced_restartBegun (ho : OrdersPlaced s) : OrdersPlaced (restartBegun s cause) := by
  obtain ⟨sc, fc, ot, _, _⟩ := restartBegun_rest s cause
  unfold OrdersPlaced
  rw [sc, fc, ot]
  exact ho

theorem lasts_warmRestart : LastsGates (restartBegun s cause) (s.warmRestart cause) :=
  (lasts_loadsEnded _).trans (lasts_windowsAbandoned _)

theorem arbiterEmptied_outputs :
    (arbiterEmptied s).iob.coarseOut = s.iob.coarseOut ∧ (arbiterEmptied s).iob.fineOut = s.iob.fineOut ∧
      (arbiterEmptied s).iob.aeration = s.iob.aeration := ⟨rfl, rfl, rfl⟩

theorem arbiterEmptied_gate (sp : Spout) (g : Gate) : (arbiterEmptied s).gate sp g = s.gate sp g := rfl

theorem restartTold_gateAfter (sp : Spout) (g : Gate) :
    gateAfter (restartTold s cause) sp g false = gateAfter s sp g false :=
  gateAfter_congr rfl rfl rfl rfl

theorem restartBegun_gate (sp : Spout) (g : Gate) : (restartBegun s cause).gate sp g = gateAfter s sp g false := by
  rw [restartBegun, arbiterEmptied_gate, outputsDown_gate, restartTold_gateAfter]

/-- RESTARTED is queued before any other event of the restart (R190). -/
theorem restartTold_rq :
    (restartTold s cause).rq =
      if s.rq.events.length < 32 then { s.rq with events := s.rq.events ++ [⟨.station, 0, .restarted true cause⟩] }
      else { s.rq with lost := min 255 (s.rq.lost + 1) } := by
  have zero : (s.now - s.now) % Config.timeWrap = 0 := by rw [Nat.sub_self, Nat.zero_mod]
  rw [restartTold, pushEvent_eq_reported, ← zero]
  rfl

theorem msTime_restartTold : (restartTold s cause).msTime = 0 := by
  show (s.now - s.now) % _ = 0
  rw [Nat.sub_self, Nat.zero_mod]

/-! ### Its items, spout by spout and slot by slot -/

theorem warmRestart_sc (q : Spout) : (s.warmRestart cause).sc.get q = restartedSc (s.sc.get q) := by
  obtain ⟨sc, _⟩ := windowsAbandoned_rest (loadsEnded (restartBegun s cause))
  obtain ⟨sc0, _⟩ := restartBegun_rest s cause
  rw [warmRestart_eq_ended, sc, loadsEnded_sc, sc0]

theorem warmRestart_fa : (s.warmRestart cause).fa = { s.fa with holders := .fill false, requests := [] } := by
  obtain ⟨_, fa, _⟩ := windowsAbandoned_rest (loadsEnded (restartBegun s cause))
  obtain ⟨_, _, _, _, fa0⟩ := restartBegun_rest s cause
  rw [warmRestart_eq_ended, fa, (loadsEnded_rest _).1, fa0]

theorem warmRestart_outputs :
    (s.warmRestart cause).iob.coarseOut = .fill false ∧ (s.warmRestart cause).iob.fineOut = .fill false ∧
      (s.warmRestart cause).iob.aeration = .fill false := by
  obtain ⟨_, _, _, _, coarse2, fine2, aeration2⟩ := windowsAbandoned_rest (loadsEnded (restartBegun s cause))
  obtain ⟨_, _, coarse1, fine1, aeration1⟩ := loadsEnded_rest (restartBegun s cause)
  obtain ⟨coarse, fine, aeration⟩ := outputsDown_off (restartTold s cause)
  obtain ⟨coarse0, fine0, aeration0⟩ := arbiterEmptied_outputs (outputsDown (restartTold s cause))
  rw [warmRestart_eq_ended, coarse2, fine2, aeration2, coarse1, fine1, aeration1, restartBegun, coarse0, fine0, aeration0]
  exact ⟨coarse, fine, aeration⟩

theorem warmRestart_holdAck : (s.warmRestart cause).iob.holdAck = true ↔ s.fa.feedHoldView = .active := by
  obtain ⟨_, _, _, _, fa⟩ := outputsDown_rest (restartTold s cause)
  obtain ⟨_, _, _, _, fa'⟩ := restartTold_rest s cause
  rw [(lasts_warmRestart s cause).holdAck, restartBegun, arbiterEmptied_holdAck, fa, fa']

theorem warmRestart_gate (sp : Spout) (g : Gate) : (s.warmRestart cause).gate sp g = gateAfter s sp g false := by
  rw [State.gate, (lasts_warmRestart s cause).gates, ← restartBegun_gate s cause]
  rfl

theorem warmRestart_lwu (l : Lane) : (s.warmRestart cause).lwu.get l = abandonedLane (s.lwu.get l) := by
  obtain ⟨_, _, _, lwu0, _⟩ := restartBegun_rest s cause
  rw [warmRestart_eq_ended, windowsAbandoned_lwu, (loadsEnded_rest _).2.1, lwu0]

theorem msTime_restartBegun : (restartBegun s cause).msTime = 0 :=
  (lasts_restartBegun s cause).msTime.trans (msTime_restartTold s cause)

section
variable {s}
variable (ho : OrdersPlaced s)
include ho

theorem warmRestart_fc (q : Spout) :
    (s.warmRestart cause).fc.get q =
      restartedFc (s.sc.get q) (s.fc.get q) (s.now + (s.params.get q).zeroTrack) := by
  have placed := ordersPlaced_restartBegun s cause ho
  have begun := lasts_restartBegun s cause
  obtain ⟨_, _, _, fc, _⟩ := windowsAbandoned_rest (loadsEnded (restartBegun s cause))
  obtain ⟨sc0, fc0, _⟩ := restartBegun_rest s cause
  rw [warmRestart_eq_ended, fc, loadsEnded_fc placed, sc0, fc0, begun.now, begun.params]
  rfl

theorem warmRestart_lastEnded (q : Spout) :
    (s.warmRestart cause).ot.lastEnded.get q =
      if (s.sc.get q).state.isActive = true then (s.sc.get q).active else s.ot.lastEnded.get q := by
  have placed := ordersPlaced_restartBegun s cause ho
  obtain ⟨_, _, ot, _⟩ := windowsAbandoned_rest (loadsEnded (restartBegun s cause))
  obtain ⟨sc0, _, ot0, _⟩ := restartBegun_rest s cause
  rw [warmRestart_eq_ended, ot, loadsEnded_lastEnded placed, sc0, ot0]

theorem warmRestart_slot_of_ne {i : Fin 16} (h : (s.ot.slot i).state ≠ .active) :
    (s.warmRestart cause).ot.slot i = s.ot.slot i := by
  have placed := ordersPlaced_restartBegun s cause ho
  obtain ⟨_, _, ot, _⟩ := windowsAbandoned_rest (loadsEnded (restartBegun s cause))
  obtain ⟨_, _, ot0, _⟩ := restartBegun_rest s cause
  rw [← ot0] at h ⊢
  rw [warmRestart_eq_ended, ot, loadsEnded_slot_of_ne placed h]

theorem warmRestart_slot {i : Fin 16} {sp : Spout} (h : (s.ot.slot i).state = .active)
    (hsp : (s.ot.slot i).spout = some sp) :
    (s.warmRestart cause).ot.slot i =
      { s.ot.slot i with
        state := .aborted
        reasons := some { (s.sc.get sp).reasons with restart := true }
        endTime := some 0 } := by
  have placed := ordersPlaced_restartBegun s cause ho
  obtain ⟨_, _, ot, _⟩ := windowsAbandoned_rest (loadsEnded (restartBegun s cause))
  obtain ⟨sc0, _, ot0, _⟩ := restartBegun_rest s cause
  rw [← ot0] at h hsp ⊢
  rw [warmRestart_eq_ended, ot, loadsEnded_slot placed h hsp, sc0, msTime_restartBegun]

end

end

/-- Settles O60. -/
theorem warmRestartEndsEveryLoad : Obligations.WarmRestartEndsEveryLoad := by
  unfold Obligations.WarmRestartEndsEveryLoad
  intro s cause t
  refine ⟨fun hready => exec_unchanged hready rfl rfl, fun ho => ?_⟩
  have kept : Lasts (restartTold s cause) t :=
    (lasts_restartBegun s cause).trans (lasts_warmRestart s cause).toLasts
  have rq := restartTold_rq s cause
  have mask : (restartTold s cause).rq.mask = s.rq.mask := by
    rw [rq]
    split <;> rfl
  obtain ⟨coarse, fine, aeration⟩ := warmRestart_outputs s cause
  refine ⟨kept.now, kept.msTime.trans (msTime_restartTold s cause), kept.rst, kept.slr, kept.params, kept.cs,
    kept.mask.trans mask, kept.queues, kept.sl, fun h => ?_, fun h => ?_, warmRestart_fa s cause, coarse, fine, aeration,
    warmRestart_holdAck s cause, fun i => (kept.input i).trans (by cases i <;> rfl),
    fun sp => ⟨warmRestart_gate s cause sp, fun hst => ?_, fun hst => ?_⟩,
    fun i => ⟨warmRestart_slot_of_ne cause ho, fun sp => warmRestart_slot cause ho⟩,
    fun l => ⟨fun hw => ?_, fun hw => ?_⟩⟩
  · have events := kept.events
    rw [rq, if_pos h] at events
    exact events
  · have same := kept.full
    rw [rq, if_neg (Nat.not_lt.mpr h)] at same
    exact same h
  · have idle : ¬ (s.sc.get sp).state.isActive = true := (not_isActive_iff _).mpr hst
    exact ⟨(warmRestart_sc s cause sp).trans (if_neg idle), (warmRestart_fc cause ho sp).trans (if_neg idle),
      (warmRestart_lastEnded cause ho sp).trans (if_neg idle)⟩
  · have active : (s.sc.get sp).state.isActive = true := by
      by_contra h
      exact hst ((not_isActive_iff _).mp h)
    refine ⟨?_, (warmRestart_fc cause ho sp).trans (if_pos active),
      (warmRestart_lastEnded cause ho sp).trans (if_pos active)⟩
    rw [warmRestart_sc, restartedSc, if_pos active]
  · exact (warmRestart_lwu s cause l).trans (if_pos hw)
  · exact (warmRestart_lwu s cause l).trans (if_neg hw)

end Sys2Proof.Proofs
